-- ==== Sys2Proof/Word.lean ====
section
/-! DEFINITION. The words of the AC64 and the operand forms of its commands. -/

namespace Sys2Proof

/-- A byte of a card's record, of the management line, of staging memory. -/
abbrev Byte := BitVec 8

/-- "A word is 16 bits" (00_scope, Conventions). -/
abbrev Word := BitVec 16

/-- A slot number, 0–63 (R1). -/
abbrev Slot := Fin 64

/-- An agent tag, 0–7 (R18). -/
abbrev Tag := Fin 8

/-- One access as the staging bus presents it (R20, R184): SB_WR, SB_SIZE, SB_A, SB_TAG, SB_LOPEN, SB_LCLOSE, SB_D. -/
structure Access where
  /-- SB_WR: high for a write. -/
  wr : Bool
  /-- SB_SIZE: the size is 2^n bytes; code 7 names no size. -/
  sizeCode : BitVec 3
  /-- SB_A, not yet aligned. -/
  addr : BitVec 24
  /-- SB_TAG. -/
  tag : Tag
  /-- SB_LOPEN, acting on a read only. -/
  lopen : Bool
  /-- SB_LCLOSE, acting on a write only. -/
  lclose : Bool
  /-- SB_D, lanes by offset within the aligned 64-byte block; only a write's covered lanes matter. -/
  data : BitVec 512
  deriving DecidableEq, Repr

/-- What arrives of a 16-bit word written over the management line (R169): the whole word, or one of its bytes. -/
inductive WordIn where
  /-- Both bytes, high byte first. -/
  | word (v : Word)
  /-- The first byte alone: it is held as the partial word (R172). -/
  | highByte (b : Byte)
  /-- The second byte, which completes the word that the held byte began. -/
  | lowByte (b : Byte)
  deriving DecidableEq, Repr

/-- How much of a read over the management line happens (R170): its value is chosen when its first byte begins, its
effects happen when its last byte has been sent. -/
inductive ReadPart where
  /-- The first byte begins and the last byte is sent, with no event of the bridge between. -/
  | whole
  /-- The first byte begins to be sent. -/
  | begins
  /-- The last byte has been sent. -/
  | sent
  deriving DecidableEq, Repr

/-- What begins on the management line with an address byte (R167, R170). -/
inductive LineStart where
  /-- A START or repeated START with the address byte, its direction bit clear: a write transaction. -/
  | writes
  /-- The same, its direction bit set: a read transaction. -/
  | reads
  /-- In the read transaction that the address byte began, the first data byte begins to be sent (log 6). -/
  | firstByte
  deriving DecidableEq, Repr

/-- The two forms of a write that READ_ONLY names (R169, R175). -/
inductive ReadOnlyWrite where
  /-- A PORTAL DATA word to a read-only table word, or to an address beyond the table. -/
  | portalWord (w : WordIn)
  /-- A data byte that the item pointer gives no place: the item is read-only, the byte is past its width, or the
  item byte of the transaction was not acknowledged. -/
  | dataByte (b : Byte)
  deriving DecidableEq, Repr

end Sys2Proof
end

