-- ==== Sys2Proof/Syntax.lean ====
section
/-! DEFINITION. The commands of the AC64: one constructor for each row of spec/opcode_table.json. -/

namespace Sys2Proof

/-- The commands. Each is one whole, indivisible step of the part (95_what_each_step_holds). -/
inductive Instr where
  /-- STAGING_BUS_ACCESS (R22). `deferred`: the Stage Unit takes a write covering STATUS in a later event of the same edge (R28, R184). -/
  | stagingBusAccess (a : Access) (deferred : Bool)
  /-- OPEN (R48): request code 11h to the slot's byte 000h, from `tag`, with or without lock-close. -/
  | openCard (slot : Slot) (tag : Tag) (lclose : Bool)
  /-- FRAME_DONE (R49): request code 12h. -/
  | frameDone (slot : Slot) (tag : Tag) (lclose : Bool)
  /-- FREEZE (R50): request code 13h. -/
  | freeze (slot : Slot) (tag : Tag) (lclose : Bool)
  /-- RETIRE (R51): request code 14h. -/
  | retire (slot : Slot) (tag : Tag) (lclose : Bool)
  /-- REOPEN (R58): request code 15h. -/
  | reopen (slot : Slot) (tag : Tag) (lclose : Bool)
  /-- RESUME (R56): request code 16h. -/
  | resume (slot : Slot) (tag : Tag) (lclose : Bool)
  /-- DISCARD (R53): request code 17h. -/
  | discard (slot : Slot) (tag : Tag) (lclose : Bool)
  /-- QUEUE_HEAD_GRANT (R128). -/
  | queueHeadGrant
  /-- QUEUED_READ_DONE (R126). -/
  | queuedReadDone
  /-- QUEUED_READ_ERROR (R130). -/
  | queuedReadError
  /-- QUEUED_WRITE_DONE (R126). -/
  | queuedWriteDone
  /-- QUEUED_WRITE_ERROR (R131). -/
  | queuedWriteError
  /-- FREEZE_READ_GRANT (R98). -/
  | freezeReadGrant
  /-- FREEZE_READ_RETURN (R99). -/
  | freezeReadReturn
  /-- FREEZE_READ_ERROR (R102). -/
  | freezeReadError
  /-- SWEEP_START (R136). -/
  | sweepStart
  /-- SWEEP_BURST_GRANT (R128). -/
  | sweepBurstGrant
  /-- SWEEP_BURST_DONE (R136). -/
  | sweepBurstDone
  /-- SWEEP_BURST_ERROR (R133). -/
  | sweepBurstError
  /-- GUARD_TIMER_EXPIRY (R63) of the slot's guard timer. -/
  | guardTimerExpiry (slot : Slot)
  /-- LOCK_TIMER_EXPIRY (R122) of the lock on the slot. -/
  | lockTimerExpiry (slot : Slot)
  /-- RETRY_TIMER_EXPIRY (R114) of the slot's retry timer. -/
  | retryTimerExpiry (slot : Slot)
  /-- READBACK_SEQUENCE_TAKEN (R116). -/
  | readbackSequenceTaken
  /-- FAULT_REPORT_TAKEN (R141). -/
  | faultReportTaken
  /-- ITEM_BYTE (R168). -/
  | itemByte (b : Byte)
  /-- PORTAL_CONTROL (R173). -/
  | portalControl (w : WordIn)
  /-- PORTAL_ADDRESS_WRITE (R174). -/
  | portalAddressWrite (w : WordIn)
  /-- DESCRIPTOR_WRITE (R177). -/
  | descriptorWrite (w : WordIn)
  /-- LOAD (R178). -/
  | load (w : WordIn)
  /-- AGENT_ROLE_WRITE (R19). -/
  | agentRoleWrite (w : WordIn)
  /-- FAULT_RESPONSE_WRITE (R143). -/
  | faultResponseWrite (w : WordIn)
  /-- TIMING_WRITE (R66). -/
  | timingWrite (w : WordIn)
  /-- CUSTODY_LOG_READ (R181). -/
  | custodyLogRead (p : ReadPart)
  /-- VERIFIED_QUEUE_READ (R181). -/
  | verifiedQueueRead (p : ReadPart)
  /-- READ_ONLY (R175). -/
  | readOnly (w : ReadOnlyWrite)
  /-- ALERT_CAUSE (R164). -/
  | alertCause (p : ReadPart)
  /-- ALERT_ENABLE (R163). -/
  | alertEnable (w : WordIn)
  /-- BLOCK (R153): COMMAND word 0001h. -/
  | block (w : WordIn)
  /-- UNBLOCK (R155): COMMAND word 0002h. -/
  | unblock (w : WordIn)
  /-- CUSTODY_RESET (R183): COMMAND word 0003h. -/
  | custodyReset (w : WordIn)
  /-- CLEAR_LOG (R159): COMMAND word 0004h. -/
  | clearLog (w : WordIn)
  /-- RESET_N_ASSERTION (R185). -/
  | resetNAssertion
  /-- RESET_N_RELEASE (R185), with the levels of the ADR and MSIZE straps that the bridge samples. -/
  | resetNRelease (adr msize : BitVec 2)
  /-- PORTAL_DATA_READ (R174). -/
  | portalDataRead (p : ReadPart)
  /-- TARGET_ADDRESS_BYTE (R167): a START with its address byte, or the first data byte of the read transaction it began. -/
  | targetAddressByte (address : BitVec 7) (x : LineStart)
  /-- TRANSACTION_END (R172): a STOP or a repeated START. -/
  | transactionEnd
  deriving DecidableEq, Repr

end Sys2Proof
end

