-- ==== Sys2Proof/Decode.lean ====
section
/-! DEFINITION. The commands spelled by the table's bits: no row of spec/opcode_table.json gives any (log 24). -/

namespace Sys2Proof

/-- No word spells a command: the table gives no row any bits. -/
def decodeTableWord (_nbits _w : Nat) : Option Instr := none

end Sys2Proof
end

