-- ==== Sys2Proof/Config.lean ====
section
/-! DEFINITION. What the part fixes, and the free values the manual leaves open. -/

namespace Sys2Proof

/-- The memory queue has 16 places (R125). -/
def Config.queuePlaces : Nat := 16

/-- The custody log holds at most 32 records (R156). -/
def Config.logPlaces : Nat := 32

/-- The sweep wait count at which a sweep burst goes before the queue head (R129). -/
def Config.sweepWaitLimit : Nat := 16

/-- A granule is 4 KiB (R5). -/
def Config.granule : Nat := 4096

/-- A window is 256 KiB (R1). -/
def Config.windowSize : Nat := 262144

/-- What a byte of staging memory that nothing has written reads as.
DESIGN CHOICE, unsafe, log 7: the manual gives no contents at power-on. -/
def Config.unwrittenByte : Byte := 0#8

/-- FREE VALUE (log 8): the bytes that a failed or part-performed write leaves in memory. The manual says they are left
"as the memory's failure left them" (R131, R133), so nothing constrains them. -/
opaque Config.freeByte : Nat → Byte

/-- FREE VALUE (log 16): whether a byte of a write that RESET_N cut off had been performed. The manual says "unperformed or part-performed"
(R139), so nothing constrains it. -/
opaque Config.freeBit : Nat → Bool

end Sys2Proof
end

