-- ==== Sys2Proof/Machine/State.lean ====
section
/-! DEFINITION. The state of the AC64, block by block as 00_scope.md's block diagram lists it, and the state after reset. -/

namespace Sys2Proof.Machine

/-! Names the manual writes in capitals. -/

/-- The ten custody stages (01, section 1.6; R10). -/
inductive Stage where
  | vacant | loaded | scanning | decoding | composing | freezing | frozen | verified | held | sweeping
  deriving DecidableEq, Repr

/-- The roles of the agent role table (R18). -/
inductive Role where
  | unassigned | controller | scanner | decoder | punch | printer | verifier
  deriving DecidableEq, Repr

/-- The areas of a window (R8). -/
inductive Area where
  | status | notes | index | card | print | readback | frame
  deriving DecidableEq, Repr

/-- The three key-byte states (R69). -/
inductive KeyState where
  | unwritten | matched | mismatched
  deriving DecidableEq, Repr

/-- The twelve fault kinds (R142). -/
inductive FaultKind where
  | stranger | absent | limit | permission | request | index | void | duplicate | chain | readback | lock | memory
  deriving DecidableEq, Repr

/-- The details of the fault kinds (01, Formats, custody log record). -/
inductive FaultDetail where
  | plain
  | area (a : Area)
  | unknownCode | wrongStage | wrongRole | malformed | chainRefused
  | indexUnwritten | indexMismatch
  | orphan
  | readbackMismatch | readbackSequence | readbackExhausted
  | lockSecond | lockExpired | lockLate
  | memoryRead | memoryWrite | memoryFreeze | memorySweep
  deriving DecidableEq, Repr

/-- The programmable fault responses (R142). -/
inductive Response where
  | silent | report | retry | hold | block
  deriving DecidableEq, Repr

/-- The response applied, as a log record shows it (R144 to R150). -/
inductive Applied where
  | silent | report | retry | hold | block | alreadyHeld
  deriving DecidableEq, Repr

/-- The bridge state (R153). -/
inductive BridgeState where
  | guarding | blocked
  deriving DecidableEq, Repr

/-- The seven alert causes, highest priority first (R161). -/
inductive Cause where
  | blockEntered | memoryError | slotHeld | logOverflow | faultReported | slotVerified | sweepDone
  deriving DecidableEq, Repr

/-- The items of the Management Interface (R171). -/
inductive Item where
  | portalControl | portalData | portalStatus | alertCause | alertEnable | bridgeStatus | command
  deriving DecidableEq, Repr

/-- The portal modes (R172). -/
inductive PortalMode where
  | address | data | dataStep | dataStepWrite
  deriving DecidableEq, Repr

/-- The portal status results (R175). -/
inductive PortalStatus where
  | ok | refusedStage | refusedRange | refusedOverlap | empty | refusedAddress | readOnly
  deriving DecidableEq, Repr

/-- The responses of SB_RESP (01 ACCEPTED, 10 DENIED, 11 WAIT, 00 none; R184). -/
inductive BusResponse where
  | none | accepted | denied | wait
  deriving DecidableEq, Repr

/-- The seven stage requests (R43). -/
inductive StageRequest where
  | openCard | frameDone | freeze | retire | reopen | resume | discard
  deriving DecidableEq, Repr

/-- The two closing codes (R72). -/
inductive Closing where
  | complete | void
  deriving DecidableEq, Repr

/-! The slot record and the per-slot state of the other blocks (01, section 1.2). -/

/-- One slot: the Stage Unit's slot record (R17), the Index Matcher's match state (R69), the Card Check Unit's card check
state (R96) and the Memory Port's drain count (R127). The drain flag is not stored: see `SlotRec.drainFlag` (log 22). -/
structure SlotRec where
  /-- Descriptor words 0–13 (R3). -/
  desc : Vector Word 14
  /-- The custody stage (R10). -/
  stage : Stage
  /-- The held-from stage (R11). -/
  heldFrom : Option Stage
  /-- The live predecessor link (R83). -/
  pred : Option Slot
  /-- The live successor link (R83). -/
  succ : Option Slot
  /-- Key established (R16). -/
  keyEst : Bool
  /-- Punch-complete (R16). -/
  punch : Bool
  /-- Print-complete (R16). -/
  print : Bool
  /-- The guard timer: stopped, or the timebase ticks left; at 0 left its last tick has come and its expiry is due (R61, R185). -/
  guardTimer : Option Nat
  /-- The retry timer: stopped, or the timebase ticks left; at 0 left its expiry is due (R114, R185). -/
  retryTimer : Option Nat
  /-- The last fault kind and sequence number (R2). -/
  lastFault : Option (FaultKind × Word)
  /-- The 22 key-byte states (R69). -/
  keys : Vector KeyState 22
  /-- The closing-seen flag (R69). -/
  closingSeen : Bool
  /-- The frozen CRC (R96). -/
  frozenCrc : Word
  /-- The read-back pointer, a window offset 170h–210h (R96). -/
  rbPtr : Nat
  /-- The running CRC (R96). -/
  runCrc : Word
  /-- The retry count, 0–8 (R96). -/
  retryCount : Nat
  /-- The drain count, 0–16 (R127). -/
  drainCount : Nat
  deriving DecidableEq, Repr

/-! Access Checker. -/

/-- One lock (R117). -/
structure Lock where
  slot : Slot
  tag : Tag
  /-- The aligned window offset of the lock-open read. -/
  offset : Nat
  /-- The timeout read at creation, in µs. -/
  timeout : Nat
  /-- The timebase ticks left to the lock timer; at 0 left its expiry is due (R185). -/
  ticks : Nat
  deriving DecidableEq, Repr

/-- The Access Checker's state (R18, R117). -/
structure AccessChecker where
  roles : Vector Role 8
  locks : List Lock
  deriving DecidableEq, Repr

/-! Stage Unit. -/

/-- A write covering STATUS that passed step 6 and goes to the Stage Unit (R28). -/
structure StageWrite where
  slot : Slot
  tag : Tag
  /-- The tag's role at the write's arrival (R18). -/
  role : Role
  /-- The aligned window offset of the first byte. -/
  offset : Nat
  /-- The size in bytes. -/
  size : Nat
  /-- The byte written at `offset`: the request code of a one-byte write at 000h. -/
  code : Byte
  /-- The write carries lock-close. -/
  lclose : Bool
  deriving DecidableEq, Repr

/-- The timing table (R66), as portal table 4 holds it. -/
structure Timing where
  /-- Guard interval, µs. -/
  guardInterval : Word
  /-- Lock timeout, µs. -/
  lockTimeout : Word
  /-- Retry delay, ms. -/
  retryDelay : Word
  /-- Retry limit. -/
  retryLimit : Word
  deriving DecidableEq, Repr

/-- The Stage Unit's state beside the slot records (R59, R66, R28). -/
structure StageUnit where
  /-- The verified queue, oldest first. -/
  verified : List Slot
  timing : Timing
  /-- The write handed over at step 6 of this edge and not yet taken (R28, R184). -/
  handed : Option StageWrite
  deriving DecidableEq, Repr

/-! Index Matcher. -/

/-- An entry of the key directory (R79): a slot and its 22-byte expected key. -/
structure KeyEntry where
  slot : Slot
  key : List Byte
  deriving DecidableEq, Repr

/-! Card Check Unit. -/

/-- The current freeze (R98). -/
structure Freeze where
  slot : Slot
  /-- Reads returned, 0–3. -/
  returned : Nat
  /-- The freeze accumulator. -/
  acc : Word
  deriving DecidableEq, Repr

/-- A SEQUENCE fault awaiting the Card Check Unit (R111, R116). -/
structure SeqFault where
  slot : Slot
  tag : Tag
  /-- The aligned offset of the refused write. -/
  offset : Nat
  /-- The read-back pointer at the write's arrival. -/
  pointer : Nat
  /-- The write's size in bytes. -/
  size : Nat
  deriving DecidableEq, Repr

/-- The Card Check Unit's state beside the slot records (R97, R98, R116). -/
structure CardCheck where
  /-- The freeze order list, oldest first. -/
  freezeList : List Slot
  /-- The current freeze. -/
  freeze : Option Freeze
  /-- SEQUENCE faults awaiting the unit, oldest first. -/
  seqFaults : List SeqFault
  deriving DecidableEq, Repr

/-! Memory Port and Sweep Engine. -/

/-- An entry of the memory queue (R125). -/
structure QEntry where
  wr : Bool
  /-- The size in bytes. -/
  size : Nat
  slot : Slot
  /-- The aligned window offset of the first byte. -/
  offset : Nat
  /-- The physical address, fixed at acceptance (R6). -/
  pa : Nat
  tag : Tag
  /-- The tag's role at arrival. -/
  role : Role
  /-- A write's bytes, in ascending offset order. -/
  data : List Byte
  /-- A status-block read whose STATUS bytes are to be replaced (R14). -/
  overlay : Bool
  deriving DecidableEq, Repr

/-- The operation the memory is performing (R128). "Whether a read is in flight" (R98) and "whether a burst is in flight"
(R135) are read off it. -/
inductive MemOp where
  /-- The head of the memory queue. -/
  | queueHead
  /-- A freeze read: its slot, its number 1–3, its physical address, and whether its freeze has been abandoned (R101). -/
  | freezeRead (slot : Slot) (number : Nat) (pa : Nat) (abandoned : Bool)
  /-- A sweep burst: its slot, its number, its physical address, and whether its sweep has been abandoned (R138). -/
  | sweepBurst (slot : Slot) (number : Nat) (pa : Nat) (abandoned : Bool)
  deriving DecidableEq, Repr

/-- The three requesters of the arbiter (R128). -/
inductive Requester where
  | freezeReader | memoryQueue | sweepEngine
  deriving DecidableEq, Repr

/-- The Memory Port's state beside the drain counts (R125, R128, R129). -/
structure MemoryPort where
  /-- The memory queue, oldest first. -/
  queue : List QEntry
  /-- The operation in flight; the memory is free when there is none. -/
  op : Option MemOp
  /-- The sweep wait count, 0–16. -/
  sweepWait : Nat
  /-- The requester that the arbiter has settled on while the memory is free: its grant is the next one (R128, log 19). -/
  due : Option Requester
  /-- The Sweep Engine was asking when the arbiter settled on the requester (R129, log 19). -/
  besideSweep : Bool
  deriving DecidableEq, Repr

/-- The current sweep (R135). -/
structure Sweep where
  slot : Slot
  /-- Bursts done, 0 to limit × 64. -/
  done : Nat
  /-- Stopped by an error (R133). -/
  stopped : Bool
  deriving DecidableEq, Repr

/-- The Sweep Engine's state (R134, R135). -/
structure SweepEngine where
  /-- The sweep queue, oldest first. -/
  queue : List Slot
  sweep : Option Sweep
  deriving DecidableEq, Repr

/-! Fault Unit. -/

/-- What the Card Check Unit did about a READBACK fault before it reported it (R116, R146). -/
inductive ReadbackOutcome where
  /-- The retry was applied (R112). -/
  | retried
  /-- The retry was exhausted, with the retry count after R112 dealt with it (R113). -/
  | exhausted (count : Nat)
  /-- HOLD is programmed (R115). -/
  | holdProgrammed
  /-- The slot was in a stage other than FROZEN and HELD; the programmed response (R116). -/
  | outOfFrozen (programmed : Response)
  /-- The slot was HELD (R116). -/
  | foundHeld
  deriving DecidableEq, Repr

/-- A fault report (R140). -/
structure Report where
  kind : FaultKind
  slot : Slot
  /-- The agent tag; none for the bridge's own work (FFh). -/
  agent : Option Tag
  /-- The stage at detection. -/
  stage : Stage
  detail : FaultDetail
  /-- The window offset; none where the record shows FFFFFFFFh. -/
  offset : Option Nat
  valueA : Word
  valueB : Word
  /-- A READBACK report carries what the Card Check Unit has applied. -/
  readback : Option ReadbackOutcome
  deriving DecidableEq, Repr

/-- A custody log record (R156). -/
structure LogRecord where
  seq : Word
  kind : FaultKind
  applied : Applied
  slot : Slot
  agent : Option Tag
  stage : Stage
  detail : FaultDetail
  offset : Option Nat
  valueA : Word
  valueB : Word
  deriving DecidableEq, Repr

/-- The Fault Unit's state (09, opening; R140, R161, R163). -/
structure FaultUnit where
  /-- The fault response table, at kind code − 1. -/
  responses : Vector Response 12
  /-- The custody log, oldest first. -/
  log : List LogRecord
  nextSeq : Word
  overflow : Bool
  bridge : BridgeState
  /-- The alert cause latches, at cause code − 1. -/
  latches : Vector Bool 7
  /-- The alert enables, at cause code − 1. -/
  enables : Vector Bool 7
  /-- Reports handed over and not yet taken, in the order of their detection. -/
  reports : List Report
  deriving DecidableEq, Repr

/-! Management Interface. -/

/-- Where the transaction on the management line stands (R167, R168). -/
inductive LinePhase where
  /-- No transaction is under way. -/
  | idle
  /-- The address was not the bridge's: the line is ignored until the next START. -/
  | ignoring
  /-- A write transaction whose item byte is still to come. -/
  | awaitItem
  /-- A write transaction whose item byte was acknowledged. -/
  | writing
  /-- A write transaction whose item byte was not acknowledged. -/
  | refusing
  /-- A read transaction. -/
  | reading
  deriving DecidableEq, Repr

/-- A value chosen and not yet sent completely, with what its end needs (R164, R170, R181). -/
inductive Sending where
  /-- A PORTAL DATA word without an effect beyond status and step. -/
  | portalWord
  /-- A custody log word, and whether the log held a record. -/
  | logWord (found : Bool)
  /-- The verified queue word: the slot returned, or none from an empty queue, and whether the entry it returned has left the queue and the slot
  has joined it anew (R181). -/
  | verifiedWord (head : Option Slot) (gone : Bool)
  /-- An ALERT CAUSE byte: the cause chosen, and whether it has been latched again since (R164). -/
  | causeByte (chosen : Option Cause) (again : Bool)
  deriving DecidableEq, Repr

/-- The Management Interface's state (R167, R168, R170, R172). -/
structure Management where
  line : LinePhase
  /-- The item pointer. -/
  item : Item
  /-- The byte position within the current transaction. -/
  bytePos : Nat
  /-- The partial word. -/
  partialByte : Option Byte
  sending : Option Sending
  /-- The bytes chosen for the current read. -/
  out : List Byte
  /-- The bridge acknowledged the latest byte it received. -/
  acked : Bool
  table : Fin 8
  mode : PortalMode
  /-- The portal address, 0000h–03FFh. -/
  addr : Nat
  status : PortalStatus
  deriving DecidableEq, Repr

/-! Pins. -/

/-- RESET_N and the sampled straps (R185, R5, R167). -/
structure Pins where
  /-- RESET_N is low. -/
  resetLow : Bool
  /-- The ADR code held. -/
  adr : BitVec 2
  /-- The MSIZE code held. -/
  msize : BitVec 2
  deriving DecidableEq, Repr

/-- What the bridge drives on the staging bus at the step's REFCLK edge (R184). Data are the covered bytes of the answer
alone, in ascending offset order (log 10). -/
structure BusOut where
  /-- SB_RESP. -/
  resp : BusResponse
  /-- The read data on SB_D. -/
  data : List Byte
  /-- SB_QRESP: `none`, `accepted` or `denied`. -/
  qResp : BusResponse
  /-- SB_QTAG. -/
  qTag : Tag
  /-- SB_QD. -/
  qData : List Byte
  deriving DecidableEq, Repr

/-- Staging memory: the bytes that differ from what an unwritten byte reads as, at strictly rising addresses. -/
abbrev Memory := List Host.Cell

/-- The state of the AC64, its staging memory, and the queue of commands waiting. -/
structure State where
  slots : Vector SlotRec 64
  acc : AccessChecker
  su : StageUnit
  /-- The key directory (R79). -/
  directory : List KeyEntry
  cc : CardCheck
  mp : MemoryPort
  sw : SweepEngine
  fu : FaultUnit
  mi : Management
  pins : Pins
  out : BusOut
  mem : Memory
  /-- THE MODEL'S OWN: the number of the next free value (log 8). -/
  freeCount : Nat
  /-- THE MODEL'S OWN: the commands waiting, first in, first out (log 23). -/
  pending : List Instr
  deriving DecidableEq, Repr

/-! Reset. -/

/-- A slot after RESET_N (R17, R96, R82, R139). -/
def SlotRec.reset : SlotRec where
  desc := (Vector.replicate 14 0#16).set 2 0xFFFF#16
  stage := .vacant
  heldFrom := none
  pred := none
  succ := none
  keyEst := false
  punch := false
  print := false
  guardTimer := none
  retryTimer := none
  lastFault := none
  keys := Vector.replicate 22 .unwritten
  closingSeen := false
  frozenCrc := 0#16
  rbPtr := 0x170
  runCrc := 0xFFFF#16
  retryCount := 0
  drainCount := 0

/-- The Management Interface after RESET_N (R168, R172). The line, byte position, output and acknowledge: log 9. -/
def Management.reset : Management where
  line := .idle
  item := .portalControl
  bytePos := 0
  partialByte := none
  sending := none
  out := []
  acked := false
  table := 0
  mode := .address
  addr := 0
  status := .ok

/-- The Fault Unit after RESET_N (R160, R142). -/
def FaultUnit.reset : FaultUnit where
  responses := #v[.report, .report, .hold, .hold, .report, .hold, .hold, .hold, .hold, .retry, .report, .hold]
  log := []
  nextSeq := 0#16
  overflow := false
  bridge := .guarding
  latches := Vector.replicate 7 false
  enables := Vector.replicate 7 true
  reports := []

/-- No answer on the staging bus: SB_RESP and SB_QRESP read 00 (R185). -/
def BusOut.quiet : BusOut where
  resp := .none
  data := []
  qResp := .none
  qTag := 0
  qData := []

/-- The machine right after reset: RESET_N has risen, every slot is VACANT. The strap codes are 0 (DESIGN CHOICE, log 9), and
staging memory lists nothing (log 7). -/
def State.reset : State where
  slots := Vector.replicate 64 SlotRec.reset
  acc :=
    { roles := #v[.controller, .unassigned, .unassigned, .unassigned,
                  .unassigned, .unassigned, .unassigned, .unassigned]
      locks := [] }
  su :=
    { verified := []
      timing := { guardInterval := 2#16, lockTimeout := 50#16, retryDelay := 40#16, retryLimit := 2#16 }
      handed := none }
  directory := []
  cc := { freezeList := [], freeze := none, seqFaults := [] }
  mp := { queue := [], op := none, sweepWait := 0, due := none, besideSweep := false }
  sw := { queue := [], sweep := none }
  fu := FaultUnit.reset
  mi := Management.reset
  pins := { resetLow := false, adr := 0#2, msize := 0#2 }
  out := BusOut.quiet
  mem := []
  freeCount := 0
  pending := []

/-- Where the model stops. -/
inductive Fault where
  /-- Raised by `State.performRead` and `State.performWrite`, called by QUEUED_READ_DONE, QUEUED_WRITE_DONE,
  FREEZE_READ_RETURN and SWEEP_BURST_DONE: memory answers done to an operation at a physical address beyond the highest
  one of the fitted memory (R5). Safe, log 17: the bridge issues no such operation from a state it can reach (R5, R6). -/
  | outsideStagingMemory
  deriving DecidableEq, Repr

/-- Why the model gives a command no meaning. -/
inductive Refusal where
  /-- An arm of `exec` not modelled yet, by its mnemonic. Safe. No arm uses it. -/
  | notModelled (mnemonic : String)
  deriving DecidableEq, Repr

end Sys2Proof.Machine
end

