-- ==== Sys2Proof/Machine/Operands.lean ====
section
/-! DEFINITION. Codes, byte order, and the forms of an access: its aligned address, its window, its areas, its rights. -/

namespace Sys2Proof.Machine

/-! Words and bytes. -/

/-- The high byte of a word. -/
def hiByte (w : Word) : Byte := (w >>> 8).setWidth 8

/-- The low byte of a word. -/
def loByte (w : Word) : Byte := w.setWidth 8

/-- A word is sent high byte first (00_scope, Conventions). -/
def joinBytes (hi lo : Byte) : Word := hi.setWidth 16 <<< 8 ||| lo.setWidth 16

/-- A word from a natural number. -/
def toWord (n : Nat) : Word := BitVec.ofNat 16 n

/-- A word whose high byte and low byte are given as numbers. -/
def pairWord (hi lo : Nat) : Word := toWord (hi * 256 + lo)

/-- A byte from a natural number. -/
def toByte (n : Nat) : Byte := BitVec.ofNat 8 n

/-- A vector with `f` applied to every element. -/
def mapVector {α β : Type} {n : Nat} (f : α → β) (v : Vector α n) : Vector β n :=
  ⟨(v.toList.map f).toArray, by simp⟩

/-- The vector whose element `i` is `f i`. -/
def buildVector {α : Type} (n : Nat) (f : Fin n → α) : Vector α n :=
  ⟨(List.ofFn f).toArray, by simp⟩

/-! Codes (01, Formats). -/

/-- Stage codes (01, section 1.6). -/
def Stage.code : Stage → Nat
  | .vacant => 0 | .loaded => 1 | .scanning => 2 | .decoding => 3 | .composing => 4
  | .freezing => 5 | .frozen => 6 | .verified => 7 | .held => 8 | .sweeping => 9

/-- Role codes (portal table 2). -/
def Role.code : Role → Nat
  | .unassigned => 0 | .controller => 1 | .scanner => 2 | .decoder => 3
  | .punch => 4 | .printer => 5 | .verifier => 6

/-- The role a table 2 word names, if it is in 0000h–0006h (R18). -/
def Role.ofWord (w : Word) : Option Role :=
  if w = 0#16 then some .unassigned
  else if w = 1#16 then some .controller
  else if w = 2#16 then some .scanner
  else if w = 3#16 then some .decoder
  else if w = 4#16 then some .punch
  else if w = 5#16 then some .printer
  else if w = 6#16 then some .verifier
  else none

/-- Area codes (01, area map). -/
def Area.code : Area → Nat
  | .status => 1 | .notes => 2 | .index => 3 | .card => 4 | .print => 5 | .readback => 6 | .frame => 7

/-- Fault kind codes (01, Formats). -/
def FaultKind.code : FaultKind → Nat
  | .stranger => 1 | .absent => 2 | .limit => 3 | .permission => 4 | .request => 5 | .index => 6
  | .void => 7 | .duplicate => 8 | .chain => 9 | .readback => 10 | .lock => 11 | .memory => 12

/-- The address of a kind's entry in the fault response table: kind code − 1 (R142). -/
def FaultKind.entry : FaultKind → Fin 12
  | .stranger => 0 | .absent => 1 | .limit => 2 | .permission => 3 | .request => 4 | .index => 5
  | .void => 6 | .duplicate => 7 | .chain => 8 | .readback => 9 | .lock => 10 | .memory => 11

/-- The kind whose entry stands at an address of the fault response table (R142). -/
def FaultKind.ofEntry (n : Nat) : FaultKind :=
  match n with
  | 0 => .stranger | 1 => .absent | 2 => .limit | 3 => .permission | 4 => .request | 5 => .index
  | 6 => .void | 7 => .duplicate | 8 => .chain | 9 => .readback | 10 => .lock | _ => .memory

/-- Detail codes (01, Formats). -/
def FaultDetail.code : FaultDetail → Nat
  | .plain => 0
  | .area a => a.code
  | .unknownCode => 1 | .wrongStage => 2 | .wrongRole => 3 | .malformed => 4 | .chainRefused => 5
  | .indexUnwritten => 1 | .indexMismatch => 2
  | .orphan => 1
  | .readbackMismatch => 1 | .readbackSequence => 2 | .readbackExhausted => 3
  | .lockSecond => 1 | .lockExpired => 2 | .lockLate => 3
  | .memoryRead => 1 | .memoryWrite => 2 | .memoryFreeze => 3 | .memorySweep => 4

/-- Response codes (01, Formats). -/
def Response.code : Response → Nat
  | .silent => 1 | .report => 2 | .retry => 3 | .hold => 4 | .block => 5

/-- The response a table 3 word names, if it is in 0001h–0005h (R143). -/
def Response.ofWord (w : Word) : Option Response :=
  if w = 1#16 then some .silent
  else if w = 2#16 then some .report
  else if w = 3#16 then some .retry
  else if w = 4#16 then some .hold
  else if w = 5#16 then some .block
  else none

/-- The responses that may be programmed for each kind (R142, column Allowed). -/
def FaultKind.allows : FaultKind → Response → Bool
  | .stranger, r => r == .silent || r == .report || r == .block
  | .absent, r => r == .silent || r == .report || r == .block
  | .limit, r => r == .report || r == .hold || r == .block
  | .permission, r => r == .report || r == .hold || r == .block
  | .request, r => r == .silent || r == .report || r == .hold
  | .index, r => r == .report || r == .hold
  | .void, r => r == .report || r == .hold
  | .duplicate, r => r == .hold || r == .block
  | .chain, r => r == .report || r == .hold
  | .readback, r => r == .retry || r == .hold
  | .lock, r => r == .silent || r == .report || r == .hold
  | .memory, r => r == .hold || r == .block

/-- Response-applied codes of a log record (01, Formats). -/
def Applied.code : Applied → Nat
  | .silent => 1 | .report => 2 | .retry => 3 | .hold => 4 | .block => 5 | .alreadyHeld => 6

/-- The response applied that shows a programmed response as it stands. -/
def Response.applied : Response → Applied
  | .silent => .silent | .report => .report | .retry => .retry | .hold => .hold | .block => .block

/-- The place of a cause's latch and enable: cause code − 1 (R161). -/
def Cause.place : Cause → Fin 7
  | .blockEntered => 0 | .memoryError => 1 | .slotHeld => 2 | .logOverflow => 3
  | .faultReported => 4 | .slotVerified => 5 | .sweepDone => 6

/-- Cause codes, 01h highest priority (R161). -/
def Cause.code (c : Cause) : Nat := c.place.val + 1

/-- The causes in order of priority (R161). -/
def Cause.byPriority : List Cause :=
  [.blockEntered, .memoryError, .slotHeld, .logOverflow, .faultReported, .slotVerified, .sweepDone]

/-- The item an item byte 00h–06h names (R168). -/
def Item.ofByte (b : Byte) : Option Item :=
  if b = 0#8 then some .portalControl
  else if b = 1#8 then some .portalData
  else if b = 2#8 then some .portalStatus
  else if b = 3#8 then some .alertCause
  else if b = 4#8 then some .alertEnable
  else if b = 5#8 then some .bridgeStatus
  else if b = 6#8 then some .command
  else none

/-- PORTAL STATUS, ALERT CAUSE and BRIDGE STATUS are read-only (R169). -/
def Item.isReadOnly : Item → Bool
  | .portalStatus | .alertCause | .bridgeStatus => true
  | .portalControl | .portalData | .alertEnable | .command => false

/-- Mode codes of PORTAL CONTROL (R173). -/
def PortalMode.code : PortalMode → Nat
  | .address => 0 | .data => 1 | .dataStep => 2 | .dataStepWrite => 3

/-- The mode a PORTAL CONTROL low byte names, if it is in 00h–03h (R173). -/
def PortalMode.ofByte (b : Byte) : Option PortalMode :=
  if b = 0#8 then some .address
  else if b = 1#8 then some .data
  else if b = 2#8 then some .dataStep
  else if b = 3#8 then some .dataStepWrite
  else none

/-- PORTAL STATUS codes (01, Formats). -/
def PortalStatus.code : PortalStatus → Nat
  | .ok => 0 | .refusedStage => 1 | .refusedRange => 2 | .refusedOverlap => 3
  | .empty => 4 | .refusedAddress => 5 | .readOnly => 6

/-- Sizes of the portal tables in words (R174). -/
def tableSize (t : Fin 8) : Nat :=
  match t.val with
  | 0 => 1024 | 1 => 512 | 2 => 8 | 3 => 12 | 4 => 4 | 5 => 8 | 6 => 1 | _ => 65

/-- The codes of SB_RESP and SB_QRESP: 01 ACCEPTED, 10 DENIED, 11 WAIT, 00 none (13, signals; R184). -/
def BusResponse.code : BusResponse → BitVec 2
  | .none => 0b00#2 | .accepted => 0b01#2 | .denied => 0b10#2 | .wait => 0b11#2

/-! Groups of stages. -/

/-- A HOLD stops a slot in these seven stages (R147). -/
def Stage.holdable : Stage → Bool
  | .scanning | .decoding | .composing | .freezing | .frozen | .verified | .sweeping => true
  | .vacant | .loaded | .held => false

/-- Entry to these stages starts the guard timer (R47, R61). -/
def Stage.guarded : Stage → Bool
  | .loaded | .scanning | .decoding | .composing | .freezing | .frozen | .verified => true
  | .vacant | .held | .sweeping => false

/-- Entry to these stages takes a fresh drain count (R47, R127). -/
def Stage.drained : Stage → Bool
  | .loaded | .scanning | .decoding | .composing | .freezing | .frozen | .verified | .sweeping => true
  | .vacant | .held => false

/-- The stages that have a row of rights (R31). -/
def Stage.hasRights : Stage → Bool
  | .loaded | .scanning | .decoding | .composing | .frozen | .verified | .held => true
  | .vacant | .freezing | .sweeping => false

/-! Areas and rights. -/

/-- The area that holds a window offset (R8). -/
def areaOf (offset : Nat) : Area :=
  if offset < 0x010 then .status
  else if offset < 0x040 then .notes
  else if offset < 0x080 then .index
  else if offset < 0x120 then .card
  else if offset < 0x170 then .print
  else if offset < 0x210 then .readback
  else if offset < 0x1000 then .notes
  else .frame

/-- The rights table (R31). STATUS bytes never come to it: steps 3 and 6 decide them. -/
def hasRight (role : Role) (stage : Stage) (write : Bool) (area : Area) : Bool :=
  match role, write, area with
  | _, _, .status => false
  | .controller, false, _ => stage.hasRights
  | .controller, true, .notes => stage.hasRights
  | .controller, true, .card => stage == .composing
  | .controller, true, .print => stage == .composing
  | .scanner, true, .frame => stage == .scanning
  | .decoder, false, .frame => stage == .decoding
  | .decoder, true, .index => stage == .decoding
  | .punch, false, .card => stage == .frozen
  | .printer, false, .print => stage == .frozen
  | .verifier, false, .frame => stage == .frozen
  | .verifier, true, .readback => stage == .frozen
  | _, _, _ => false

/-- The bytes at `offset` to `offset + size − 1` include `x`. -/
def coversByte (offset size x : Nat) : Bool := decide (offset ≤ x) && decide (x < offset + size)

/-- The bytes at `offset` to `offset + size − 1` include a byte of `area`. -/
def coversArea (offset size : Nat) (area : Area) : Bool :=
  (List.range size).any fun k => areaOf (offset + k) == area

end Sys2Proof.Machine

namespace Sys2Proof

/-! The form of an access (R1, R20). -/

/-- The size in bytes: 2^n for size code n. -/
def Access.size (a : Access) : Nat := 2 ^ a.sizeCode.toNat

/-- Code 7 names no size (R20). -/
def Access.noSize (a : Access) : Bool := a.sizeCode == 7#3

/-- The address with the lowest bits, those below the size, as zero (R20). -/
def Access.aligned (a : Access) : Nat := a.addr.toNat / a.size * a.size

/-- The window number: the upper 6 bits of the aligned address (R1). -/
def Access.slot (a : Access) : Slot := Fin.ofNat 64 (a.aligned / Config.windowSize)

/-- The window offset: the lower 18 bits of the aligned address (R1). -/
def Access.offset (a : Access) : Nat := a.aligned % Config.windowSize

/-- The byte on lane `k` of SB_D: bits 8k + 7 to 8k (R184; the lane's bits DEDUCED, log 10). -/
def laneByte (data : BitVec 512) (k : Nat) : Byte := (data >>> (8 * k)).setWidth 8

/-- The bytes a write carries, in ascending offset order: lanes by offset within the aligned 64-byte block (13, SB_D). -/
def Access.bytes (a : Access) : List Byte :=
  (List.range a.size).map fun k => laneByte a.data ((a.offset + k) % 64)

/-- A read below 010h is a status-block read: wholly inside STATUS, or of 32 or 64 bytes at 000h (R13, R14). -/
def Access.isStatusRead (a : Access) : Bool := !a.wr && decide (a.offset < 0x10)

/-- A write covering any STATUS byte (R28). -/
def Access.isStageWrite (a : Access) : Bool := a.wr && decide (a.offset < 0x10)

/-- The first byte, by offset, in an area where the role lacks the right; its area is the detail (R31, R32). -/
def Access.lackingArea (a : Access) (role : Machine.Role) (stage : Machine.Stage) : Option Machine.Area :=
  ((List.range a.size).map fun k => Machine.areaOf (a.offset + k)).find? fun area =>
    !Machine.hasRight role stage a.wr area

/-- The one-byte write of a request code at 000h of a slot's window (R43). -/
def Access.ofRequest (slot : Slot) (tag : Tag) (lclose : Bool) (code : Byte) : Access where
  wr := true
  sizeCode := 0#3
  addr := BitVec.ofNat 24 (slot.val * Config.windowSize)
  tag := tag
  lopen := false
  lclose := lclose
  data := code.setWidth 512

end Sys2Proof
end

