-- ==== Sys2Proof/Machine/Ops.lean ====
section
/-! DEFINITION. The named operations that several commands share: memory, slots, CRC, guard, stage changes, holds, reports. -/

namespace Sys2Proof.Machine

/-! Staging memory (R5, R6, R126). -/

/-- The byte memory holds at an address; an address it does not list reads as `Config.unwrittenByte` (log 7). -/
def Memory.read : Memory → Nat → Byte
  | [], _ => Config.unwrittenByte
  | cell :: rest, a => if a = cell.1 then cell.2 else Memory.read rest a

/-- A byte written at an address, keeping the canonical form. -/
def Memory.write : Memory → Nat → Byte → Memory
  | [], a, b => if b = Config.unwrittenByte then [] else [(a, b)]
  | cell :: rest, a, b =>
    if a < cell.1 then
      if b = Config.unwrittenByte then cell :: rest else (a, b) :: cell :: rest
    else if a = cell.1 then
      if b = Config.unwrittenByte then rest else (a, b) :: rest
    else cell :: Memory.write rest a b

/-- The canonical form: strictly rising addresses, no entry equal to what an unlisted address reads as. -/
abbrev Memory.wf (m : Memory) : Prop :=
  m.Pairwise (fun x y => x.1 < y.1) ∧ ∀ cell ∈ m, cell.2 ≠ Config.unwrittenByte

/-- `n` bytes from an address up. -/
def Memory.readBytes (m : Memory) (a n : Nat) : List Byte :=
  (List.range n).map fun k => m.read (a + k)

/-- Bytes written from an address up. -/
def Memory.writeBytes (m : Memory) (a : Nat) : List Byte → Memory
  | [] => m
  | b :: rest => Memory.writeBytes (m.write a b) (a + 1) rest

/-- The granule count of an MSIZE code (R5). -/
def granuleCount (msize : BitVec 2) : Nat := 512 * 2 ^ msize.toNat

/-- The bytes of an operation lie within the fitted memory (R5). -/
def State.inMemory (s : State) (pa size : Nat) : Bool :=
  decide (pa + size ≤ granuleCount s.pins.msize * Config.granule)

/-- Memory performs a write: done (R126). -/
def State.performWrite (s : State) (pa : Nat) (bytes : List Byte) : Host.Outcome State Fault Refusal :=
  if s.inMemory pa bytes.length then .next { s with mem := s.mem.writeBytes pa bytes }
  else .fault .outsideStagingMemory

/-- Memory performs a read: done, with its data for `k` (R126). -/
def State.performRead (s : State) (pa size : Nat) (k : List Byte → State) : Host.Outcome State Fault Refusal :=
  if s.inMemory pa size then .next (k (s.mem.readBytes pa size))
  else .fault .outsideStagingMemory

/-- A write of `n` bytes that failed leaves them as the failure left them: free values (R131, R133, log 8). Bytes beyond the fitted memory do not exist. -/
def State.spoil (s : State) (pa n : Nat) : State :=
  if s.inMemory pa n then
    { s with
      mem := s.mem.writeBytes pa ((List.range n).map fun k => Config.freeByte (s.freeCount + k))
      freeCount := s.freeCount + n }
  else s

/-- A write that RESET_N cuts off is unperformed or part-performed (R139): each of its bytes is the old one or the new one, which of them a
free value (log 16). -/
def State.tear (s : State) (pa : Nat) (bytes : List Byte) : State :=
  if s.inMemory pa bytes.length then
    { s with
      mem := s.mem.writeBytes pa ((List.range bytes.length).map fun k =>
        if Config.freeBit (s.freeCount + k) then bytes.getD k 0#8 else s.mem.read (pa + k))
      freeCount := s.freeCount + bytes.length }
  else s

/-! CRC (R100). -/

/-- One data bit entered into the register. -/
def crcBit (reg : Word) (bit : Bool) : Word :=
  if reg.msb != bit then reg <<< 1 ^^^ 0x1021#16 else reg <<< 1

/-- One byte entered, most significant bit first. -/
def crcByte (reg : Word) (b : Byte) : Word :=
  [7, 6, 5, 4, 3, 2, 1, 0].foldl (fun r i => crcBit r (b.getLsbD i)) reg

/-- Bytes entered in the order of their window offsets. -/
def crcBytes (reg : Word) (bytes : List Byte) : Word := bytes.foldl crcByte reg

/-! Reaching the slots. -/

/-- The record of a slot. -/
def State.slot (s : State) (n : Slot) : SlotRec := s.slots[n.val]

/-- The record of a slot replaced. -/
def State.setSlot (s : State) (n : Slot) (r : SlotRec) : State := { s with slots := s.slots.set n.val r }

/-- The record of a slot changed. -/
def State.modSlot (s : State) (n : Slot) (f : SlotRec → SlotRec) : State := s.setSlot n (f (s.slot n))

/-- The role of a tag (R18). -/
def State.role (s : State) (tag : Tag) : Role := s.acc.roles[tag.val]

/-- The slots in a stage. -/
def State.slotsIn (s : State) (p : Stage → Bool) : List SlotRec := s.slots.toList.filter fun r => p r.stage

/-! The descriptor (R3, R4). -/

/-- Base granule, word 0. -/
def SlotRec.base (r : SlotRec) : Nat := r.desc[0].toNat

/-- Limit in granules, word 1. -/
def SlotRec.limit (r : SlotRec) : Nat := r.desc[1].toNat

/-- Requested predecessor, word 2. -/
def SlotRec.requested (r : SlotRec) : Word := r.desc[2]

/-- The 22 bytes of the expected key, in the index record's order (R4). -/
def SlotRec.key (r : SlotRec) : List Byte :=
  (r.desc.toList.drop 3).flatMap fun w => [hiByte w, loByte w]

/-- Section, word 12 high byte. -/
def SlotRec.sectionNo (r : SlotRec) : Nat := (hiByte r.desc[12]).toNat

/-- Section count, word 12 low byte. -/
def SlotRec.sectionCount (r : SlotRec) : Nat := (loByte r.desc[12]).toNat

/-! Flags of a slot's service. -/

/-- The drain flag is set exactly while the drain count is above zero (R62, R127). -/
def SlotRec.drainFlag (r : SlotRec) : Bool := decide (0 < r.drainCount)

/-- The guard is active exactly while the timer runs or the drain flag is set (R63). -/
def SlotRec.guardActive (r : SlotRec) : Bool := r.guardTimer.isSome || r.drainFlag

/-- The lock on a slot (R117: no slot carries more than one). -/
def State.lockOn (s : State) (n : Slot) : Option Lock := s.acc.locks.find? fun l => l.slot == n

/-- The lock a tag holds (R117: no agent holds more than one). -/
def State.lockBy (s : State) (t : Tag) : Option Lock := s.acc.locks.find? fun l => l.tag == t

/-- Another agent holds the slot's lock (R28, R33). -/
def State.lockedByOther (s : State) (n : Slot) (t : Tag) : Bool :=
  s.acc.locks.any fun l => l.slot == n && l.tag != t

/-- The slot has a live predecessor whose punch-complete is clear (R15, R87). -/
def State.chainWait (s : State) (n : Slot) : Bool :=
  match (s.slot n).pred with
  | some p => !(s.slot p).punch
  | none => false

/-! What the bridge drives on the staging bus (R184). -/

/-- An edge that answers nothing: SB_RESP and SB_QRESP 00 (log 2). -/
def State.quiet (s : State) : State := { s with out := BusOut.quiet }

/-- The response to the access of this edge, with a read's data. -/
def State.answer (s : State) (r : BusResponse) (data : List Byte) : State :=
  { s with out := { s.out with resp := r, data := data } }

/-- The answer to a queued read. -/
def State.answerQueued (s : State) (r : BusResponse) (t : Tag) (data : List Byte) : State :=
  { s with out := { s.out with qResp := r, qTag := t, qData := data } }

/-- `n` bytes 00h: the data of a denied read (R21). -/
def zeroBytes (n : Nat) : List Byte := List.replicate n 0#8

/-- A step of a bridge that is out of reset. While RESET_N is low it answers nothing and nothing happens (R185). -/
def State.whenUp (s : State) (f : State → State) : State :=
  if s.pins.resetLow then s.quiet else f s.quiet

/-- The same for a step that has memory perform an operation. -/
def State.whenUpPerform (s : State) (f : State → Host.Outcome State Fault Refusal) :
    Host.Outcome State Fault Refusal :=
  if s.pins.resetLow then .next s.quiet else f s.quiet

/-! Reports and alert causes. -/

/-- A fault report handed over to the Fault Unit (R140). -/
def State.report (s : State) (r : Report) : State :=
  { s with fu := { s.fu with reports := s.fu.reports ++ [r] } }

/-- The alert causes after one of them is latched again: a byte being sent for it no longer unlatches it (R164). -/
def Sending.latchedAgain (x : Sending) (c : Cause) : Sending :=
  match x with
  | .causeByte (some chosen) again => .causeByte (some chosen) (again || chosen == c)
  | .causeByte none again => .causeByte none again
  | .portalWord => .portalWord
  | .logWord f => .logWord f
  | .verifiedWord h g => .verifiedWord h g

/-- The slot joins the verified queue: a verified queue word being sent for it returned an entry that is gone (R181; after a custody reset,
log 27). -/
def Sending.rejoined (x : Sending) (n : Slot) : Sending :=
  match x with
  | .verifiedWord (some m) gone => .verifiedWord (some m) (gone || m == n)
  | .verifiedWord none gone => .verifiedWord none gone
  | .portalWord => .portalWord
  | .logWord f => .logWord f
  | .causeByte c again => .causeByte c again

/-- An alert cause is latched (R161, R162). -/
def State.latch (s : State) (c : Cause) : State :=
  { s with
    fu := { s.fu with latches := s.fu.latches.set c.place.val true }
    mi := { s.mi with sending := s.mi.sending.map fun x => x.latchedAgain c } }

/-- A cause is latched if `p` holds. -/
def State.latchIf (s : State) (p : Bool) (c : Cause) : State := if p then s.latch c else s

/-! Locks. -/

/-- Any lock on the slot is removed without a record (R47, R123). -/
def State.dropLocksOn (s : State) (n : Slot) : State :=
  { s with acc := { s.acc with locks := s.acc.locks.filter fun l => l.slot != n } }

/-- A lock-close write from the tag that holds the slot's lock has been decided: the lock ends (R120). -/
def State.endLock (s : State) (lclose : Bool) (n : Slot) (t : Tag) : State :=
  if lclose then
    { s with acc := { s.acc with locks := s.acc.locks.filter fun l => !(l.slot == n && l.tag == t) } }
  else s

/-! Stage changes (R47, R61, R64, R65). -/

/-- A timer started with `n` units expires at the (n + 1)-th tick; a value of 0 starts none (R61, R114, R185). -/
def timerOf (n : Nat) : Option Nat := if n = 0 then none else some (n + 1)

/-- The number of a slot's entries in the memory queue (R61, R127). -/
def State.queuedOf (s : State) (n : Slot) : Nat := s.mp.queue.countP fun e => e.slot == n

/-- The slot record after a stage change: held-from by R11, guard timer and drain count by the table of R47. -/
def SlotRec.enter (r : SlotRec) (new : Stage) (queued guardInterval : Nat) : SlotRec :=
  { r with
    stage := new
    heldFrom := if new = .held then some r.stage else none
    guardTimer := if new.guarded then timerOf guardInterval else none
    drainCount := if new.drained then queued else 0 }

/-- THE STAGE CHANGE (R47): the new stage, held-from, the slot's lock removed, the guard started or cancelled. -/
def State.changeStage (s : State) (n : Slot) (new : Stage) : State :=
  (s.modSlot n fun r => r.enter new (s.queuedOf n) s.su.timing.guardInterval.toNat).dropLocksOn n

/-- The card check state at its starting values (R96). -/
def SlotRec.freshCheck (r : SlotRec) : SlotRec :=
  { r with frozenCrc := 0#16, rbPtr := 0x170, runCrc := 0xFFFF#16, retryCount := 0, retryTimer := none }

/-- The values a slot takes on entry to VACANT beside the stage change (R17, R96): descriptor and last fault kept. -/
def SlotRec.vacated (r : SlotRec) : SlotRec :=
  { r.freshCheck with pred := none, succ := none, keyEst := false, punch := false, print := false }

/-- Entry to VACANT from SWEEPING or LOADED (R17, R47, R52, R137). -/
def State.vacate (s : State) (n : Slot) : State := (s.changeStage n .vacant).modSlot n SlotRec.vacated

/-- All 22 key-byte states UNWRITTEN, with the closing-seen flag given (R69, R77). -/
def SlotRec.resetMatch (r : SlotRec) (seen : Bool) : SlotRec :=
  { r with keys := Vector.replicate 22 .unwritten, closingSeen := seen }

/-- The key leaves the directory and the flag clears (R80). -/
def State.releaseKey (s : State) (n : Slot) : State :=
  { (s.modSlot n fun r => { r with keyEst := false }) with
    directory := s.directory.filter fun e => e.slot != n }

/-- All live links of a slot cleared, both halves of each pair (R89, R90). -/
def State.unlink (s : State) (n : Slot) : State :=
  let s₁ := match (s.slot n).pred with
    | some p => s.modSlot p fun r => { r with succ := none }
    | none => s
  let s₂ := match (s.slot n).succ with
    | some q => s₁.modSlot q fun r => { r with pred := none }
    | none => s₁
  s₂.modSlot n fun r => { r with pred := none, succ := none }

/-! The freeze order list (R97, R98, R101). -/

/-- A freeze read is in flight, of the current freeze or of an abandoned one. -/
def MemOp.isFreezeRead : MemOp → Bool
  | .freezeRead .. => true
  | .queueHead | .sweepBurst .. => false

/-- A sweep burst is in flight, of the current sweep or of an abandoned one. -/
def MemOp.isSweepBurst : MemOp → Bool
  | .sweepBurst .. => true
  | .queueHead | .freezeRead .. => false

/-- The same operation, its freeze read abandoned (R101, R103). -/
def MemOp.abandonFreeze : MemOp → MemOp
  | .freezeRead n k pa _ => .freezeRead n k pa true
  | .queueHead => .queueHead
  | .sweepBurst n k pa b => .sweepBurst n k pa b

/-- The same operation, its sweep burst abandoned (R138). -/
def MemOp.abandonSweep : MemOp → MemOp
  | .sweepBurst n k pa _ => .sweepBurst n k pa true
  | .queueHead => .queueHead
  | .freezeRead n k pa b => .freezeRead n k pa b

/-- With no freeze under way and no read of an abandoned one in flight, the head of the list becomes the current freeze with 0
reads returned and the accumulator at FFFFh (R98, R101). -/
def State.takeUpFreeze (s : State) : State :=
  match s.cc.freeze, s.cc.freezeList with
  | none, n :: _ =>
    if s.mp.op.any MemOp.isFreezeRead then s
    else { s with cc := { s.cc with freeze := some { slot := n, returned := 0, acc := 0xFFFF#16 } } }
  | _, _ => s

/-- A slot joins the tail of the freeze order list (R50, R97). -/
def State.joinFreezeList (s : State) (n : Slot) : State :=
  { s with cc := { s.cc with freezeList := s.cc.freezeList ++ [n] } }.takeUpFreeze

/-- A slot leaves the freeze order list and its freeze, if it is the current one, is abandoned (R97, R101). -/
def State.abandonFreeze (s : State) (n : Slot) : State :=
  let list := s.cc.freezeList.filter fun m => m != n
  if s.cc.freeze.any fun f => f.slot == n then
    { s with
      cc := { s.cc with freezeList := list, freeze := none }
      mp := { s.mp with op := s.mp.op.map MemOp.abandonFreeze } }.takeUpFreeze
  else { s with cc := { s.cc with freezeList := list } }.takeUpFreeze

/-! The verified queue and the sweep queue (R60, R134). -/

/-- A slot joins the tail of the verified queue. A read of the queue that returned an earlier entry of the slot removes nothing further (R60,
R181). -/
def State.joinVerified (s : State) (n : Slot) : State :=
  { s with
    su := { s.su with verified := s.su.verified ++ [n] }
    mi := { s.mi with sending := s.mi.sending.map fun x => x.rejoined n } }

/-- A slot leaves the verified queue wherever it stands. -/
def State.leaveVerified (s : State) (n : Slot) : State :=
  { s with su := { s.su with verified := s.su.verified.filter fun m => m != n } }

/-- A slot joins the tail of the sweep queue. -/
def State.joinSweep (s : State) (n : Slot) : State :=
  { s with sw := { s.sw with queue := s.sw.queue ++ [n] } }

/-- A slot leaves the sweep queue, and its sweep, if it is the current one, is abandoned (R134, R138). -/
def State.abandonSweep (s : State) (n : Slot) : State :=
  let queue := s.sw.queue.filter fun m => m != n
  if s.sw.sweep.any fun w => w.slot == n then
    { s with
      sw := { queue := queue, sweep := none }
      mp := { s.mp with op := s.mp.op.map MemOp.abandonSweep } }
  else { s with sw := { s.sw with queue := queue } }

/-! The hold (R54). -/

/-- What a hold undoes, by the stage it holds from (R54, table). -/
def State.undoForHold (s : State) (n : Slot) : State :=
  match (s.slot n).stage with
  | .freezing => s.abandonFreeze n
  | .frozen => s.modSlot n fun r => { r with retryTimer := none }
  | .verified => s.leaveVerified n
  | .sweeping => s.abandonSweep n
  | .vacant | .loaded | .scanning | .decoding | .composing | .held => s

/-- The Stage Unit takes a hold of a slot in a holdable stage (R54). -/
def State.hold (s : State) (n : Slot) : State := (s.undoForHold n).changeStage n .held

/-! Drain counts (R62, R127). -/

/-- A completion of one of the slot's queue entries lowers a drain count above zero by one. -/
def State.lowerDrain (s : State) (n : Slot) : State :=
  s.modSlot n fun r => { r with drainCount := r.drainCount - 1 }

/-- The head of the memory queue leaves it at memory's answer, and its slot's drain count is lowered (R126). -/
def State.completeHead (s : State) (e : QEntry) : State :=
  { s with mp := { s.mp with queue := s.mp.queue.tail, op := none } }.lowerDrain e.slot

/-! Requesters of the arbiter (R128). -/

/-- The freeze reader asks while the head of the list is ready for its next read (R98). -/
def State.freezeAsks (s : State) : Bool :=
  match s.cc.freeze with
  | some f =>
    (s.slot f.slot).drainCount == 0 && !(s.mp.op.any MemOp.isFreezeRead) && decide (f.returned < 3)
  | none => false

/-- The queue asks while it holds an entry. -/
def State.queueAsks (s : State) : Bool := !s.mp.queue.isEmpty

/-- The Sweep Engine asks while its current sweep has a burst ready: not stopped, none in flight, some to do (R136). -/
def State.sweepAsks (s : State) : Bool :=
  match s.sw.sweep with
  | some w =>
    !w.stopped && !(s.mp.op.any MemOp.isSweepBurst) && decide (w.done < (s.slot w.slot).limit * 64)
  | none => false

/-- A requester asks (R128). -/
def State.asks (s : State) (r : Requester) : Bool :=
  match r with
  | .freezeReader => s.freezeAsks
  | .memoryQueue => s.queueAsks
  | .sweepEngine => s.sweepAsks

/-- The arbiter's table: whose grant it is among those that ask together (R128, R129). -/
def State.byTable (s : State) : Option Requester :=
  if s.freezeAsks then some .freezeReader
  else if s.sweepAsks && decide (Config.sweepWaitLimit ≤ s.mp.sweepWait) then some .sweepEngine
  else if s.queueAsks then some .memoryQueue
  else if s.sweepAsks then some .sweepEngine
  else none

/-- Whose grant is the next one (R128): none while the memory is busy; the requester settled on, while it asks, so that requests reaching a free
memory are granted in the order they arrive; else the table's. -/
def State.grantee (s : State) : Option Requester :=
  if s.mp.op.isSome then none else if s.mp.due.any s.asks then s.mp.due else s.byTable

/-- The Sweep Engine asks at the moment of the next grant (R129): the moment the arbiter settled on the requester that still asks, or now. -/
def State.sweepBeside (s : State) : Bool := if s.mp.due.any s.asks then s.mp.besideSweep else s.sweepAsks

/-- THE ARBITER SETTLES the next grant, when the memory becomes free, when a request arrives at a free memory, and when one is withdrawn
(R128, log 19). Whether the Sweep Engine asks is judged at the same moment (R129). -/
def State.arbitrate (s : State) : State :=
  { s with mp := { s.mp with due := s.grantee, besideSweep := s.grantee.isSome && s.sweepBeside } }

/-- The memory performs a granted operation, and the arbiter has no grant in hand. -/
def MemoryPort.perform (m : MemoryPort) (o : MemOp) : MemoryPort := { m with op := some o, due := none, besideSweep := false }

end Sys2Proof.Machine
end

