-- ==== Sys2Proof/Machine/Flags.lean ====
section
/-! DEFINITION. What the bridge shows: the status block and its flags, BRIDGE STATUS, the log record's words, ALERT_N, the memory pins. -/

namespace Sys2Proof.Machine

/-- A flag at a bit of a byte. -/
def flagBit (b : Bool) (n : Nat) : Nat := if b then 2 ^ n else 0

/-- Status byte 3 (01, Formats): key established, punch-complete, print-complete, guard active, lock held, retry wait,
chain wait (R15). -/
def State.statusFlags (s : State) (n : Slot) : Byte :=
  let r := s.slot n
  toByte (flagBit r.keyEst 0 + flagBit r.punch 1 + flagBit r.print 2 + flagBit r.guardActive 3 +
    flagBit (s.lockOn n).isSome 4 + flagBit r.retryTimer.isSome 5 + flagBit (s.chainWait n) 6)

/-- A link as a status byte: the slot number, FFh for none (R15). -/
def linkByte (l : Option Slot) : Byte :=
  match l with
  | some p => toByte p.val
  | none => 0xFF#8

/-- Held-from as a status byte: FFh for none (R11). -/
def heldFromByte (h : Option Stage) : Byte :=
  match h with
  | some st => toByte st.code
  | none => 0xFF#8

/-- The last fault kind as a status byte, 00h while it is none (R2). -/
def lastKindByte (f : Option (FaultKind × Word)) : Byte :=
  match f with
  | some (k, _) => toByte k.code
  | none => 0#8

/-- The last fault sequence number, 0000h while the kind is none (R2). -/
def lastSeqWord (f : Option (FaultKind × Word)) : Word :=
  match f with
  | some (_, q) => q
  | none => 0#16

/-- The 16 bytes of a slot's status block at this instant (R15). -/
def State.statusBytes (s : State) (n : Slot) : List Byte :=
  let r := s.slot n
  [toByte r.stage.code, heldFromByte r.heldFrom, lastKindByte r.lastFault, s.statusFlags n,
   hiByte r.frozenCrc, loByte r.frozenCrc, toByte r.retryCount, toByte (r.rbPtr - 0x170),
   linkByte r.pred, linkByte r.succ, hiByte (lastSeqWord r.lastFault), loByte (lastSeqWord r.lastFault),
   0#8, 0#8, 0#8, 0#8]

/-- Status byte `k` of a slot. -/
def State.statusByte (s : State) (n : Slot) (k : Nat) : Byte := (s.statusBytes n).getD k 0#8

/-- The number of slots in HELD (R12). -/
def State.heldCount (s : State) : Nat := (s.slotsIn fun st => st == .held).length

/-- The number of slots in another stage than VACANT (R12). -/
def State.nonVacantCount (s : State) : Nat := (s.slotsIn fun st => st != .vacant).length

/-- Bridge state codes (01, BRIDGE STATUS). -/
def BridgeState.code : BridgeState → Nat
  | .guarding => 0
  | .blocked => 1

/-- The eight bytes of BRIDGE STATUS at one instant (R171; 01, Formats). -/
def State.bridgeStatus (s : State) : List Byte :=
  [toByte s.fu.bridge.code, toByte (s.pins.msize.toNat + 4 * s.pins.adr.toNat), toByte s.fu.log.length,
   toByte (flagBit s.fu.overflow 0), toByte s.su.verified.length, toByte s.sw.queue.length,
   toByte s.heldCount, toByte s.nonVacantCount]

/-- ALERT ENABLE as a word: bit n − 1 enables cause n (R163). -/
def enableWord (enables : Vector Bool 7) : Word :=
  toWord (Cause.byPriority.foldl (fun acc c => acc + flagBit enables[c.place.val] c.place.val) 0)

/-- The enables that a written word sets; bits 7–15 are ignored (R163). -/
def enablesOf (w : Word) : Vector Bool 7 :=
  #v[w.getLsbD 0, w.getLsbD 1, w.getLsbD 2, w.getLsbD 3, w.getLsbD 4, w.getLsbD 5, w.getLsbD 6]

/-- The cause is latched and enabled. -/
def FaultUnit.calls (fu : FaultUnit) (c : Cause) : Bool :=
  fu.latches[c.place.val] && fu.enables[c.place.val]

/-- The highest-priority cause latched and enabled (R164). -/
def FaultUnit.topCause (fu : FaultUnit) : Option Cause := Cause.byPriority.find? fun c => fu.calls c

/-- ALERT_N is driven low (R165): a cause latched and enabled, or the blocked or the held condition with its cause enabled;
released while RESET_N is low (R185). -/
def State.alertLow (s : State) : Bool :=
  !s.pins.resetLow &&
    (Cause.byPriority.any (fun c => s.fu.calls c) ||
      (s.fu.bridge == .blocked && s.fu.enables[Cause.blockEntered.place.val]) ||
      (decide (0 < s.heldCount) && s.fu.enables[Cause.slotHeld.place.val]))

/-- A window offset in a log record: FFFFFFFFh for none. -/
def offsetWords (o : Option Nat) : Word × Word :=
  match o with
  | some x => (toWord (x / 65536), toWord x)
  | none => (0xFFFF#16, 0xFFFF#16)

/-- An agent tag in a log record: FFh for the bridge's own work (R140). -/
def agentCode (a : Option Tag) : Nat :=
  match a with
  | some t => t.val
  | none => 255

/-- Word `k` of a custody log record (01, Formats; R156). -/
def LogRecord.word (r : LogRecord) (k : Nat) : Word :=
  match k with
  | 0 => r.seq
  | 1 => pairWord r.kind.code r.applied.code
  | 2 => pairWord r.slot.val (agentCode r.agent)
  | 3 => pairWord r.stage.code r.detail.code
  | 4 => (offsetWords r.offset).1
  | 5 => (offsetWords r.offset).2
  | 6 => r.valueA
  | _ => r.valueB

/-- What the bridge drives on M_REQ, M_WR, M_SIZE and M_A for the operation in flight (13; R98, R125, R135; the size shown in bytes: log 28). -/
structure MemoryPins where
  request : Bool
  write : Bool
  size : Nat
  address : Nat
  deriving DecidableEq, Repr

/-- A freeze read's size: 64, 64 and 32 bytes (R98). -/
def freezeReadSize (number : Nat) : Nat := if number = 3 then 32 else 64

/-- The memory pins, from the operation in flight; none while RESET_N is low or the memory is free (R128, R185).
DESIGN CHOICE, unsafe, log 28: M_REQ stays high from the grant to memory's answer, and with no operation in flight M_REQ and M_WR are low and M_SIZE
and M_A are 0; the signal table gives neither. -/
def State.memoryPins (s : State) : MemoryPins :=
  match s.mp.op with
  | none => { request := false, write := false, size := 0, address := 0 }
  | some .queueHead =>
    match s.mp.queue with
    | e :: _ => { request := true, write := e.wr, size := e.size, address := e.pa }
    | [] => { request := false, write := false, size := 0, address := 0 }
  | some (.freezeRead _ k pa _) => { request := true, write := false, size := freezeReadSize k, address := pa }
  | some (.sweepBurst _ _ pa _) => { request := true, write := true, size := 64, address := pa }

end Sys2Proof.Machine
end

