-- ==== Sys2Proof/Machine/ManagementLine.lean ====
section
/-! DEFINITION. The management line: transactions, the item byte, words coming in and going out (11, sections 11.1 and 11.2). -/

namespace Sys2Proof.Machine

/-- A new START: what was under way ends and every half word is discarded (R167, R172). -/
def Management.fresh (m : Management) : Management :=
  { m with bytePos := 0, partialByte := none, sending := none, out := [] }

/-- The end of a transaction (R172). -/
def Management.ended (m : Management) : Management := { m.fresh with line := .idle }

/-- PORTAL STATUS as a word (R175). -/
def PortalStatus.word (st : PortalStatus) : Word := toWord st.code

/-- The two bytes of a word, high byte first (R169). -/
def wordBytes (w : Word) : List Byte := [hiByte w, loByte w]

/-- The bytes a read of an item sends from byte position 0, where reading it changes nothing (R171). PORTAL DATA and ALERT CAUSE are
read by rows of their own. -/
def State.itemBytes (s : State) (i : Item) : List Byte :=
  match i with
  | .portalControl => [toByte s.mi.table.val, toByte s.mi.mode.code]
  | .portalStatus => wordBytes s.mi.status.word
  | .alertEnable => wordBytes (enableWord s.fu.enables)
  | .bridgeStatus => s.bridgeStatus
  | .command => wordBytes 0#16
  | .portalData => []
  | .alertCause => []

/-- Byte `k` of what is being sent; a byte past an item's width reads FFh (R170). -/
def Management.sentByte (m : Management) (k : Nat) : Byte := m.out.getD k 0xFF#8

/-- The bridge's own address: 34h plus the ADR code (R167). -/
def State.ownAddress (s : State) : BitVec 7 := 0x34#7 + s.pins.adr.setWidth 7

/-- The address byte (R167): the own address is acknowledged and a transaction begins in the given direction; any other is not acknowledged and
the line is ignored. -/
def State.addressByte (s : State) (address : BitVec 7) (read : Bool) : State :=
  if address = s.ownAddress then
    { s with mi := { s.mi.fresh with line := if read then .reading else .awaitItem, acked := true } }
  else { s with mi := { s.mi.fresh with line := .ignoring, acked := false } }

/-- The first data byte of a read transaction begins: the bytes of an item whose reading changes nothing are chosen, all together (R170). They are
chosen once in a transaction. -/
def State.firstByte (s : State) : State :=
  if s.mi.line = .reading ∧ s.mi.out = [] then { s with mi := { s.mi with out := s.itemBytes s.mi.item } } else s

/-- TARGET_ADDRESS_BYTE (R167, R170). A first data byte after another target's address is none of this bridge's. -/
def State.lineStart (s : State) (address : BitVec 7) (x : LineStart) : State :=
  match x with
  | .writes => s.addressByte address false
  | .reads => s.addressByte address true
  | .firstByte => if address = s.ownAddress then s.firstByte else s

/-- TARGET_ADDRESS_BYTE. -/
def execTargetAddressByte (address : BitVec 7) (x : LineStart) (s : State) : Host.Outcome State Fault Refusal :=
  .next (s.whenUp fun s => s.lineStart address x)

/-- TRANSACTION_END (R167, R172): a STOP or repeated START. -/
def execTransactionEnd (s : State) : Host.Outcome State Fault Refusal :=
  .next (s.whenUp fun s => { s with mi := s.mi.ended })

/-- The item byte judged (R168). -/
def Management.takeItemByte (m : Management) (b : Byte) : Management :=
  match Item.ofByte b with
  | some i => { m.fresh with line := .writing, item := i, acked := true }
  | none => { m.fresh with line := .refusing, acked := false }

/-- ITEM_BYTE (R168): the first byte of a write transaction. Where no write transaction awaits it, the row stands for a START, the bridge's
address and the item byte (log 5). -/
def execItemByte (b : Byte) (s : State) : Host.Outcome State Fault Refusal :=
  .next (s.whenUp fun s => { s with mi := s.mi.takeItemByte b })

/-! Words coming in (R169). -/

/-- A write transaction to the item is under way. -/
def Management.writingTo (m : Management) (i : Item) : Bool := m.line == .writing && m.item == i

/-- PORTAL DATA repeats; the other items take one word (R169). -/
def Management.roomForWord (m : Management) (i : Item) : Bool := i == .portalData || m.bytePos == 0

/-- What arrives within a write transaction to the item: the next state of the line, and the word that is complete. A byte past the item's
width is not acknowledged and has no effect; a form that cannot follow what came before is no event. -/
def Management.intakeHere (m : Management) (i : Item) (w : WordIn) : Management × Option Word :=
  match w, m.partialByte with
  | .word v, none =>
    if m.roomForWord i then ({ m with bytePos := m.bytePos + 2, acked := true }, some v)
    else ({ m with acked := false }, none)
  | .highByte b, none =>
    if m.roomForWord i then ({ m with bytePos := m.bytePos + 1, partialByte := some b, acked := true }, none)
    else ({ m with acked := false }, none)
  | .lowByte b, some h =>
    ({ m with bytePos := m.bytePos + 1, partialByte := none, acked := true }, some (joinBytes h b))
  | .word _, some _ => (m, none)
  | .highByte _, some _ => (m, none)
  | .lowByte _, none => (m, none)

/-- What arrives when no write transaction to the item is under way: a whole word stands for a whole transaction (START, address, item byte,
word, STOP), a first byte for a transaction begun (log 5). -/
def Management.intakeAlone (m : Management) (i : Item) (w : WordIn) : Management × Option Word :=
  match w with
  | .word v => ({ m.ended with item := i, acked := true }, some v)
  | .highByte b =>
    ({ m.fresh with line := .writing, item := i, bytePos := 1, partialByte := some b, acked := true }, none)
  | .lowByte _ => (m, none)

/-- A word, or a byte of one, written to an item (R169). -/
def Management.intake (m : Management) (i : Item) (w : WordIn) : Management × Option Word :=
  if m.writingTo i then m.intakeHere i w else m.intakeAlone i w

/-- A row of a written word: the line takes it in, and a complete word acts (R169). -/
def State.intake (s : State) (i : Item) (w : WordIn) (act : State → Word → State) : State :=
  let r := s.mi.intake i w
  let s₁ : State := { s with mi := r.1 }
  match r.2 with
  | some v => act s₁ v
  | none => s₁

/-- ALERT_ENABLE (R163): a completed word sets the seven enables. -/
def execAlertEnable (w : WordIn) (s : State) : Host.Outcome State Fault Refusal :=
  .next (s.whenUp fun s => s.intake .alertEnable w fun s v => { s with fu := { s.fu with enables := enablesOf v } })

/-! Values going out (R170). -/

/-- A read transaction of the item is under way. -/
def Management.readingOf (m : Management) (i : Item) : Bool := m.line == .reading && m.item == i

/-- The line as the first byte of a read finds it: a read transaction of the item (log 5). -/
def Management.openRead (m : Management) (i : Item) : Management :=
  if m.readingOf i then m else { m.fresh with line := .reading, item := i, acked := true }

/-- The value is chosen, and its first byte begins (R170). -/
def Management.beginSending (m : Management) (x : Sending) (bytes : List Byte) : Management :=
  { m with sending := some x, out := bytes }

/-- The last byte has been sent. -/
def Management.endSending (m : Management) (width : Nat) : Management :=
  { m with sending := none, bytePos := m.bytePos + width }

/-- A read that was not within a transaction under way ends with its STOP (log 5). -/
def Management.closeUnless (m : Management) (inPlace : Bool) : Management :=
  if inPlace then m else { m with line := .idle, bytePos := 0 }

/-- A row of a read: `choose` gives the value when the first byte begins, `finish` the effects when the last byte has been sent; `mine` says
which value in sending is the row's (R170). A value begun and not yet sent leaves no room for another. -/
def State.readRow (s : State) (i : Item) (p : ReadPart) (width : Nat) (choose : State → Sending × List Byte)
    (mine : Sending → Bool) (finish : State → Sending → State) : State :=
  let inPlace := s.mi.readingOf i
  match p with
  | .begins =>
    if inPlace && s.mi.sending.isSome then s
    else
      { s with mi := (s.mi.openRead i).beginSending (choose s).1 (choose s).2 }
  | .sent =>
    match s.mi.sending with
    | some x => if mine x then { (finish s x) with mi := (finish s x).mi.endSending width } else s
    | none => s
  | .whole =>
    if inPlace && s.mi.sending.isSome then s
    else
      let x := (choose s).1
      let s₁ : State := { s with mi := (s.mi.openRead i).beginSending x (choose s).2 }
      { (finish s₁ x) with mi := ((finish s₁ x).mi.endSending width).closeUnless inPlace }

/-! ALERT CAUSE (R164). -/

/-- The byte that shows a chosen cause, 00h for none. -/
def causeCode (c : Option Cause) : Byte :=
  match c with
  | some c => toByte c.code
  | none => 0#8

/-- The cause chosen for an ALERT CAUSE byte: the highest latched and enabled one; a byte past the item's width reads FFh (R164, R170). -/
def State.chooseCause (s : State) : Sending × List Byte :=
  if s.mi.readingOf .alertCause && s.mi.bytePos != 0 then (.causeByte none false, [0xFF#8])
  else (.causeByte s.fu.topCause false, [causeCode s.fu.topCause])

/-- The byte has been sent: the chosen cause is unlatched, unless it was latched again meanwhile (R164). -/
def State.unlatchSent (s : State) (x : Sending) : State :=
  match x with
  | .causeByte (some c) false => { s with fu := { s.fu with latches := s.fu.latches.set c.place.val false } }
  | .causeByte (some _) true => s
  | .causeByte none _ => s
  | .portalWord | .logWord _ | .verifiedWord _ _ => s

/-- A value in sending is an ALERT CAUSE byte. -/
def Sending.isCause : Sending → Bool
  | .causeByte _ _ => true
  | .portalWord | .logWord _ | .verifiedWord _ _ => false

/-- ALERT_CAUSE (R164). -/
def execAlertCause (p : ReadPart) (s : State) : Host.Outcome State Fault Refusal :=
  .next (s.whenUp fun s => s.readRow .alertCause p 1 State.chooseCause Sending.isCause State.unlatchSent)

end Sys2Proof.Machine
end

