-- ==== Sys2Proof/Machine/Commands.lean ====
section
/-! DEFINITION. The COMMAND item's four commands (R182, R183) and the two edges of RESET_N (R185). -/

namespace Sys2Proof.Machine

/-- The four command codes (R182). -/
def isCommandCode (v : Word) : Bool := v == 1#16 || v == 2#16 || v == 3#16 || v == 4#16

/-- A row of the COMMAND item (R182, log 21). A completed word that is the row's code issues the command; a word that is no command has its second
byte not acknowledged and does nothing; another command's word is that command's event, not this row's. -/
def State.commandRow (s : State) (code : Word) (w : WordIn) (act : State → State) : State :=
  let r := s.mi.intake .command w
  match r.2 with
  | some v =>
    if v = code then act { s with mi := r.1 }
    else if isCommandCode v then s
    else { s with mi := { r.1 with acked := false } }
  | none => { s with mi := r.1 }

/-- BLOCK: the bridge BLOCKED, BLOCK ENTERED latched if it was GUARDING (R153). -/
def State.blockBridge (s : State) : State :=
  let blocked : State := { s with fu := { s.fu with bridge := .blocked } }
  blocked.latchIf (s.fu.bridge == .guarding) .blockEntered

/-- BLOCK (R153). -/
def execBlock (w : WordIn) (s : State) : Host.Outcome State Fault Refusal :=
  .next (s.whenUp fun s => s.commandRow 1#16 w State.blockBridge)

/-- UNBLOCK: the bridge GUARDING, and nothing else (R155). -/
def State.unblockBridge (s : State) : State := { s with fu := { s.fu with bridge := .guarding } }

/-- UNBLOCK (R155). -/
def execUnblock (w : WordIn) (s : State) : Host.Outcome State Fault Refusal :=
  .next (s.whenUp fun s => s.commandRow 2#16 w State.unblockBridge)

/-- A slot after a custody reset: everything at its RESET_N value but the descriptor, which is kept (R17, R67, R82, R96, R139). -/
def SlotRec.custodyReset (r : SlotRec) : SlotRec := { SlotRec.reset with desc := r.desc }

/-- What a custody reset clears outside the slots: locks, verified queue, key directory, freezes, sweeps, the sweep wait count with what would raise it, BLOCKED. The memory
queue, the operation in flight, SEQUENCE faults and reports in hand, and a write handed to the Stage Unit stay (R116, R139, R160); a freeze read or
burst in flight is abandoned (R103, R138). -/
def State.clearCustody (s : State) : State :=
  { s with
    acc := { s.acc with locks := [] }
    su := { s.su with verified := [] }
    directory := []
    cc := { s.cc with freezeList := [], freeze := none }
    mp := { s.mp with
      op := s.mp.op.map fun o => o.abandonFreeze.abandonSweep
      sweepWait := 0
      besideSweep := false }
    sw := { queue := [], sweep := none }
    fu := { s.fu with bridge := .guarding } }

/-- CUSTODY RESET, as one event over all custody owners (R67, R183). -/
def State.resetCustody (s : State) : State :=
  { s.clearCustody with slots := mapVector SlotRec.custodyReset s.slots }.arbitrate

/-- CUSTODY_RESET (R183). -/
def execCustodyReset (w : WordIn) (s : State) : Host.Outcome State Fault Refusal :=
  .next (s.whenUp fun s => s.commandRow 3#16 w State.resetCustody)

/-- CLEAR LOG: every record removed, the overflow flag cleared (R159). -/
def State.emptyLog (s : State) : State := { s with fu := { s.fu with log := [], overflow := false } }

/-- CLEAR_LOG (R159). -/
def execClearLog (w : WordIn) (s : State) : Host.Outcome State Fault Refusal :=
  .next (s.whenUp fun s => s.commandRow 4#16 w State.emptyLog)

/-! RESET_N (R185). -/

/-- What the assertion of RESET_N leaves of a write in flight: unperformed or part-performed (R139, R185, log 16). -/
def State.cutOff (s : State) : State :=
  match s.mp.op, s.mp.queue with
  | some .queueHead, e :: _ => if e.wr then s.tear e.pa e.data else s
  | some (.sweepBurst _ _ pa _), _ => s.tear pa (zeroBytes 64)
  | _, _ => s

/-- Every piece of custody state at its RESET_N value, RESET_N low; staging memory, the strap codes (sampled afresh at the release) and the
model's own fields stay. -/
def State.assertReset (s : State) : State :=
  { State.reset with
    pins := { s.pins with resetLow := true }
    mem := s.mem
    freeCount := s.freeCount
    pending := s.pending }

/-- RESET_N_ASSERTION (R185). -/
def execResetNAssertion (s : State) : Host.Outcome State Fault Refusal := .next s.cutOff.assertReset

/-- RESET_N_RELEASE (R185): RESET_N rises and the straps are sampled. RESET_N that is not low cannot rise (log 1). -/
def execResetNRelease (adr msize : BitVec 2) (s : State) : Host.Outcome State Fault Refusal :=
  .next
    (if s.pins.resetLow then { s.quiet with pins := { resetLow := false, adr := adr, msize := msize } } else s.quiet)

end Sys2Proof.Machine
end

