-- ==== Sys2Proof/Machine/CardCheck.lean ====
section
/-! DEFINITION. The Card Check Unit: read-back, retries, the freeze reader's rows, and the taking of SEQUENCE faults (chapter 6). -/

namespace Sys2Proof.Machine

/-! READBACK faults (R110 to R116). -/

/-- The response programmed for a kind (R142). -/
def State.programmed (s : State) (k : FaultKind) : Response := s.fu.responses[k.entry.val]

/-- The retry count after R112 deals with it: it rises while at or below the limit. -/
def raisedCount (count limit : Nat) : Nat := if count ≤ limit then count + 1 else count

/-- The read-back begun afresh, with the retry timer started (R112, R114). A delay of 0 leaves no timer (log 15). -/
def SlotRec.restartReadback (r : SlotRec) (count delayMs : Nat) : SlotRec :=
  { r with rbPtr := 0x170, runCrc := 0xFFFF#16, retryCount := count, retryTimer := timerOf (1000 * delayMs) }

/-- RETRY applied to the card check state in the event that raises the fault (R112), or found exhausted (R113). -/
def State.applyRetry (s : State) (n : Slot) : State × ReadbackOutcome :=
  let limit := s.su.timing.retryLimit.toNat
  let count := raisedCount (s.slot n).retryCount limit
  if limit < count then
    (s.modSlot n fun r => { r with retryCount := count }, .exhausted count)
  else
    (s.modSlot n fun r => r.restartReadback count s.su.timing.retryDelay.toNat, .retried)

/-- What the Card Check Unit does about a READBACK fault, by the slot's stage when it takes it (R116). -/
def State.settleReadback (s : State) (n : Slot) : State × ReadbackOutcome :=
  match (s.slot n).stage with
  | .held => (s, .foundHeld)
  | .frozen =>
    match s.programmed .readback with
    | .retry => s.applyRetry n
    | .silent | .report | .hold | .block => (s, .holdProgrammed)
  | .vacant | .loaded | .scanning | .decoding | .composing | .freezing | .verified | .sweeping =>
    (s, .outOfFrozen (s.programmed .readback))

/-- A READBACK fault is raised: settled by the Card Check Unit, then handed to the Fault Unit (R112, R116, R140). -/
def State.raiseReadback (s : State) (n : Slot) (t : Tag) (detail : FaultDetail) (offset : Nat) (a b : Word) : State :=
  (s.settleReadback n).1.report
    { kind := .readback, slot := n, agent := some t, stage := .frozen, detail := detail, offset := some offset
      valueA := a, valueB := b, readback := some (s.settleReadback n).2 }

/-- The end of a run: a match moves the slot to VERIFIED, another CRC raises MISMATCH (R108, R109, R110). -/
def State.endOfRun (s : State) (n : Slot) (t : Tag) (offset : Nat) : State :=
  let r := s.slot n
  if r.runCrc = r.frozenCrc then ((s.changeStage n .verified).joinVerified n).latch .slotVerified
  else s.raiseReadback n t .readbackMismatch offset r.runCrc r.frozenCrc

/-- The read-back tap: an accepted VERIFIER write to READBACK (R107). -/
def State.readbackTap (s : State) (n : Slot) (t : Tag) (offset : Nat) (bytes : List Byte) : State :=
  let s₁ := s.modSlot n fun r =>
    { r with runCrc := crcBytes r.runCrc bytes, rbPtr := r.rbPtr + bytes.length }
  if (s₁.slot n).rbPtr = 0x210 then s₁.endOfRun n t offset else s₁

/-- READBACK_SEQUENCE_TAKEN (R111, R116): the oldest SEQUENCE fault awaiting the unit is taken. -/
def State.takeSequence (s : State) : State :=
  match s.cc.seqFaults with
  | f :: rest =>
    { s with cc := { s.cc with seqFaults := rest } }.raiseReadback f.slot f.tag .readbackSequence f.offset
      (toWord f.pointer) (toWord f.size)
  | [] => s

/-- READBACK_SEQUENCE_TAKEN. -/
def execReadbackSequenceTaken (s : State) : Host.Outcome State Fault Refusal :=
  .next (s.whenUp State.takeSequence)

/-! The freeze reader's rows (R98 to R103, R132). -/

/-- The window offset of a freeze read (R98). -/
def freezeReadOffset (number : Nat) : Nat :=
  match number with
  | 1 => 0x080
  | 2 => 0x0C0
  | _ => 0x100

/-- FREEZE_READ_GRANT (R98, R128), where the arbiter's next grant is the freeze reader's. -/
def State.grantFreezeRead (s : State) : State :=
  match s.cc.freeze with
  | some f =>
    if s.grantee = some .freezeReader then
      let k := f.returned + 1
      { s with
        mp := s.mp.perform (.freezeRead f.slot k ((s.slot f.slot).base * Config.granule + freezeReadOffset k) false) }
    else s
  | none => s

/-- FREEZE_READ_GRANT. -/
def execFreezeReadGrant (s : State) : Host.Outcome State Fault Refusal := .next (s.whenUp State.grantFreezeRead)

/-- The memory is free again. -/
def State.freeMemory (s : State) : State := { s with mp := { s.mp with op := none } }

/-- The third freeze read has returned: frozen CRC stored, slot off the list and FROZEN, the new head taken up (R99). -/
def State.completeFreeze (s : State) (n : Slot) (crc : Word) : State :=
  ({ s with cc := { s.cc with freezeList := s.cc.freezeList.filter (fun m => m != n), freeze := none } }.modSlot n
    (fun r => { r with frozenCrc := crc })).changeStage n .frozen |>.takeUpFreeze

/-- A freeze read of the current freeze returns with data (R99). -/
def State.enterFreezeData (s : State) (f : Freeze) (bytes : List Byte) : State :=
  let acc := crcBytes f.acc bytes
  if f.returned + 1 = 3 then s.completeFreeze f.slot acc
  else { s with cc := { s.cc with freeze := some { f with returned := f.returned + 1, acc := acc } } }

/-- FREEZE_READ_RETURN (R99, R101): a read of an abandoned freeze is discarded and the new head is taken up. -/
def State.returnFreezeRead (s : State) : Host.Outcome State Fault Refusal :=
  match s.mp.op, s.cc.freeze with
  | some (.freezeRead _ k pa false), some f =>
    s.performRead pa (freezeReadSize k) fun bytes => (s.freeMemory.enterFreezeData f bytes).arbitrate
  | some (.freezeRead _ _ _ false), none => .next s.freeMemory.takeUpFreeze.arbitrate
  | some (.freezeRead _ _ _ true), _ => .next s.freeMemory.takeUpFreeze.arbitrate
  | _, _ => .next s

/-- FREEZE_READ_RETURN. -/
def execFreezeReadReturn (s : State) : Host.Outcome State Fault Refusal := s.whenUpPerform State.returnFreezeRead

/-- A MEMORY fault of the freeze reader (R132). -/
def State.freezeErrorReport (s : State) (n : Slot) (number pa : Nat) : Report where
  kind := .memory
  slot := n
  agent := none
  stage := (s.slot n).stage
  detail := .memoryFreeze
  offset := some (freezeReadOffset number)
  valueA := toWord (pa / Config.granule)
  valueB := pairWord 0 number
  readback := none

/-- FREEZE_READ_ERROR (R102, R132): the freeze is abandoned, its slot leaves the list and a fault is raised; a read of an
abandoned freeze is discarded without one (R101). -/
def State.failFreezeRead (s : State) : State :=
  match s.mp.op, s.cc.freeze with
  | some (.freezeRead _ k pa false), some f =>
    ({ s.freeMemory with
      cc := { s.cc with freezeList := s.cc.freezeList.filter (fun m => m != f.slot), freeze := none } }.takeUpFreeze).report
      (s.freezeErrorReport f.slot k pa) |>.arbitrate
  | some (.freezeRead _ _ _ false), none => s.freeMemory.takeUpFreeze.arbitrate
  | some (.freezeRead _ _ _ true), _ => s.freeMemory.takeUpFreeze.arbitrate
  | _, _ => s

/-- FREEZE_READ_ERROR. -/
def execFreezeReadError (s : State) : Host.Outcome State Fault Refusal := .next (s.whenUp State.failFreezeRead)

/-- The retry timer whose last tick has come stops, and retry wait clears (R114, R185). -/
def SlotRec.expireRetry (r : SlotRec) : SlotRec := { r with retryTimer := if r.retryTimer = some 0 then none else r.retryTimer }

/-- RETRY_TIMER_EXPIRY (R114). -/
def execRetryTimerExpiry (n : Slot) (s : State) : Host.Outcome State Fault Refusal :=
  .next (s.whenUp fun s => s.modSlot n SlotRec.expireRetry)

end Sys2Proof.Machine
end

