-- ==== Sys2Proof/Machine/FaultUnit.lean ====
section
/-! DEFINITION. The Fault Unit: FAULT_REPORT_TAKEN, the responses and the custody log (chapter 9). -/

namespace Sys2Proof.Machine

/-- What the Fault Unit makes of a report (R144 to R150): the response applied, whether the slot is held, whether BLOCK is
programmed, and the detail and value B of the record. -/
structure Verdict where
  applied : Applied
  holds : Bool
  blocks : Bool
  detail : FaultDetail
  valueB : Word
  deriving DecidableEq, Repr

/-- HOLD, or the hold of an exhausted retry: REPORT where the slot is VACANT or LOADED (R147, R148). -/
def holdVerdict (st : Stage) (detail : FaultDetail) (b : Word) : Verdict where
  applied := if st.holdable then .hold else .report
  holds := st.holdable
  blocks := false
  detail := detail
  valueB := b

/-- A verdict without a hold or a block. -/
def plainVerdict (a : Applied) (detail : FaultDetail) (b : Word) : Verdict where
  applied := a
  holds := false
  blocks := false
  detail := detail
  valueB := b

/-- Value B of an EXHAUSTED record: 01h or 02h for what was raised, and the retry count (R113). -/
def exhaustedValueB (raised : FaultDetail) (count : Nat) : Word := pairWord raised.code count

/-- The detail and value B of the record: EXHAUSTED and its own value B for an exhausted retry, those of the report otherwise (R113,
R149, R156). -/
def Report.recordDetail (r : Report) : FaultDetail × Word :=
  match r.readback with
  | some (.exhausted count) => (.readbackExhausted, exhaustedValueB r.detail count)
  | _ => (r.detail, r.valueB)

/-- The verdict on a READBACK report against a slot that is not HELD (R146). A report of a slot that the Card Check Unit found HELD is
recorded as ALREADY HELD (R116, log 14). -/
def readbackVerdict (o : ReadbackOutcome) (st : Stage) (detail : FaultDetail) (b : Word) : Verdict :=
  match o with
  | .retried => plainVerdict .retry detail b
  | .exhausted _ => holdVerdict st detail b
  | .holdProgrammed => holdVerdict st detail b
  | .outOfFrozen p => plainVerdict p.applied detail b
  | .foundHeld => plainVerdict .alreadyHeld detail b

/-- The verdict on another report against a slot that is not HELD, by the programmed response (R144, R145, R147, R148, R150). -/
def programmedVerdict (p : Response) (st : Stage) (detail : FaultDetail) (b : Word) : Verdict :=
  match p with
  | .silent => plainVerdict .silent detail b
  | .report => plainVerdict .report detail b
  | .retry => plainVerdict .retry detail b
  | .hold => holdVerdict st detail b
  | .block => { applied := .block, holds := st.holdable, blocks := true, detail := detail, valueB := b }

/-- THE VERDICT on a report, against the slot's stage as it stands (R141). A slot in HELD gives ALREADY HELD, and BLOCK still blocks
the bridge (R149). -/
def State.verdict (s : State) (r : Report) : Verdict :=
  let st := (s.slot r.slot).stage
  let d := r.recordDetail
  match r.readback with
  | some o =>
    if st = .held then plainVerdict .alreadyHeld d.1 d.2 else readbackVerdict o st d.1 d.2
  | none =>
    if st = .held then
      { applied := .alreadyHeld, holds := false, blocks := s.programmed r.kind == .block
        detail := d.1, valueB := d.2 }
    else programmedVerdict (s.programmed r.kind) st d.1 d.2

/-- REPORT of an INDEX or VOID fault resets the match state and sets closing-seen (R77, R145). -/
def Verdict.resetsMatch (v : Verdict) (k : FaultKind) : Bool := v.applied == .report && (k == .index || k == .void)

/-- FAULT REPORTED is latched for what is neither SILENT, nor ALREADY HELD, nor a hold taken (R151). -/
def Verdict.reports (v : Verdict) : Bool := v.applied != .silent && v.applied != .alreadyHeld && !v.holds

/-- The causes a report latches (R151), `full` when the log holds 32 records, `guarding` when the bridge was GUARDING. -/
def State.latchFor (s : State) (v : Verdict) (k : FaultKind) (full guarding : Bool) : State :=
  ((((s.latchIf (v.blocks && guarding) .blockEntered).latchIf (k == .memory) .memoryError).latchIf v.holds .slotHeld).latchIf
    full .logOverflow).latchIf v.reports .faultReported

/-- The record of a report (R156). -/
def State.recordOf (s : State) (r : Report) (v : Verdict) : LogRecord where
  seq := s.fu.nextSeq
  kind := r.kind
  applied := v.applied
  slot := r.slot
  agent := r.agent
  stage := r.stage
  detail := v.detail
  offset := r.offset
  valueA := r.valueA
  valueB := v.valueB

/-- The log holds 32 records (R158). -/
def State.logFull (s : State) : Bool := decide (Config.logPlaces ≤ s.fu.log.length)

/-- The record is entered with the next sequence number and the slot's last fault fields are written, or it is lost and the overflow
flag set (R2, R157, R158). -/
def State.enterRecord (s : State) (r : Report) (v : Verdict) : State :=
  if s.logFull then { s with fu := { s.fu with overflow := true } }
  else
    { s with
      fu := { s.fu with log := s.fu.log ++ [s.recordOf r v], nextSeq := s.fu.nextSeq + 1#16 } }.modSlot r.slot
      fun x => { x with lastFault := some (r.kind, s.fu.nextSeq) }

/-- The bridge part of BLOCK (R150). -/
def State.blockIf (s : State) (b : Bool) : State :=
  if b then { s with fu := { s.fu with bridge := .blocked } } else s

/-- The report's action on the slot: the hold (R147), or the match-state reset of a reported closing (R77). -/
def State.applyVerdict (s : State) (r : Report) (v : Verdict) : State :=
  let s₁ := if v.holds then s.hold r.slot else s
  if v.resetsMatch r.kind then s₁.modSlot r.slot fun x => x.resetMatch true else s₁

/-- FAULT_REPORT_TAKEN (R141): the oldest report handed over is taken, all of its effects as one event. -/
def State.takeReport (s : State) : State :=
  match s.fu.reports with
  | r :: rest =>
    let s₀ : State := { s with fu := { s.fu with reports := rest } }
    let v := s.verdict r
    let s₁ := ((s₀.applyVerdict r v).enterRecord r v).blockIf v.blocks
    let s₂ := s₁.latchFor v r.kind s.logFull (s.fu.bridge == .guarding)
    if v.holds then s₂.arbitrate else s₂
  | [] => s

/-- FAULT_REPORT_TAKEN. -/
def execFaultReportTaken (s : State) : Host.Outcome State Fault Refusal := .next (s.whenUp State.takeReport)

end Sys2Proof.Machine
end

