-- ==== Sys2Proof/Machine/MemoryPort.lean ====
section
/-! DEFINITION. The Memory Port's rows for the memory queue: the grant, and memory's four answers (chapter 8). -/

namespace Sys2Proof.Machine

/-- QUEUE_HEAD_GRANT (R128, R129), where the arbiter's next grant is the queue's. The sweep wait count rises if the Sweep Engine was asking at
the grant's moment, and stays within 0–16. -/
def State.grantQueueHead (s : State) : State :=
  if s.grantee = some .memoryQueue then
    { s with
      mp :=
        { s.mp.perform .queueHead with
          sweepWait := if s.sweepBeside then min Config.sweepWaitLimit (s.mp.sweepWait + 1) else s.mp.sweepWait } }
  else s

/-- QUEUE_HEAD_GRANT. -/
def execQueueHeadGrant (s : State) : Host.Outcome State Fault Refusal := .next (s.whenUp State.grantQueueHead)

/-- The queue's head while memory performs it, if it is a read (`wr` false) or a write (`wr` true). -/
def State.headInFlight (s : State) (wr : Bool) : Option QEntry :=
  match s.mp.op, s.mp.queue with
  | some .queueHead, e :: _ => if e.wr = wr then some e else none
  | _, _ => none

/-- A completed read sets punch-complete when its role at arrival was PUNCH, it covers 11Fh and the slot is FROZEN (R104). -/
def QEntry.completesPunch (e : QEntry) (r : SlotRec) : Bool :=
  e.role == .punch && coversByte e.offset e.size 0x11F && r.stage == .frozen

/-- A completed read sets print-complete when its role at arrival was PRINTER, it covers 16Fh and the slot is FROZEN (R105). -/
def QEntry.completesPrint (e : QEntry) (r : SlotRec) : Bool :=
  e.role == .printer && coversByte e.offset e.size 0x16F && r.stage == .frozen

/-- The completion flags after a read of the slot has returned its data (R104, R105). -/
def SlotRec.afterRead (r : SlotRec) (e : QEntry) : SlotRec :=
  { r with punch := r.punch || e.completesPunch r, print := r.print || e.completesPrint r }

/-- The data of a queued read: an overlay read's first 16 bytes are live status (R14), as it stands when this event's own effects have been
taken (log 12). -/
def State.readData (s : State) (e : QEntry) (bytes : List Byte) : List Byte :=
  if e.overlay then s.statusBytes e.slot ++ bytes.drop 16 else bytes

/-- A queued read is done (R39, R126). -/
def State.finishRead (s : State) (e : QEntry) (bytes : List Byte) : State :=
  let s₁ := (s.completeHead e).modSlot e.slot fun r => r.afterRead e
  (s₁.answerQueued .accepted e.tag (s₁.readData e bytes)).arbitrate

/-- QUEUED_READ_DONE (R126). -/
def State.readDone (s : State) : Host.Outcome State Fault Refusal :=
  match s.headInFlight false with
  | some e => s.performRead e.pa e.size fun bytes => s.finishRead e bytes
  | none => .next s

/-- QUEUED_READ_DONE. -/
def execQueuedReadDone (s : State) : Host.Outcome State Fault Refusal := s.whenUpPerform State.readDone

/-- The MEMORY fault report of a queue entry (R130, R131). -/
def State.queueErrorReport (s : State) (e : QEntry) : Report where
  kind := .memory
  slot := e.slot
  agent := some e.tag
  stage := (s.slot e.slot).stage
  detail := if e.wr then .memoryWrite else .memoryRead
  offset := some e.offset
  valueA := toWord (e.pa / Config.granule)
  valueB := pairWord e.role.code (if e.wr then 1 else 0)
  readback := none

/-- QUEUED_READ_ERROR (R130): DENIED with zeros, and a MEMORY READ fault. -/
def State.readError (s : State) : State :=
  match s.headInFlight false with
  | some e => ((s.completeHead e).answerQueued .denied e.tag (zeroBytes e.size)).report (s.queueErrorReport e) |>.arbitrate
  | none => s

/-- QUEUED_READ_ERROR. -/
def execQueuedReadError (s : State) : Host.Outcome State Fault Refusal := .next (s.whenUp State.readError)

/-- QUEUED_WRITE_DONE (R126): the bytes are in memory. -/
def State.writeDone (s : State) : Host.Outcome State Fault Refusal :=
  match s.headInFlight true with
  | some e => (s.completeHead e).arbitrate.performWrite e.pa e.data
  | none => .next s

/-- QUEUED_WRITE_DONE. -/
def execQueuedWriteDone (s : State) : Host.Outcome State Fault Refusal := s.whenUpPerform State.writeDone

/-- QUEUED_WRITE_ERROR (R131): the bytes are as the failure left them, and a MEMORY WRITE fault is raised. -/
def State.writeError (s : State) : State :=
  match s.headInFlight true with
  | some e => ((s.completeHead e).spoil e.pa e.data.length).report (s.queueErrorReport e) |>.arbitrate
  | none => s

/-- QUEUED_WRITE_ERROR. -/
def execQueuedWriteError (s : State) : Host.Outcome State Fault Refusal := .next (s.whenUp State.writeError)

end Sys2Proof.Machine
end

