-- ==== Sys2Proof/Machine/Portal.lean ====
section
/-! DEFINITION. The portal: PORTAL CONTROL, the eight tables, descriptor loading (11, sections 11.3 and 11.4). -/

namespace Sys2Proof.Machine

/-- PORTAL STATUS set (R175). -/
def State.setStatus (s : State) (st : PortalStatus) : State := { s with mi := { s.mi with status := st } }

/-- PORTAL_CONTROL: the word taken or refused (R173). -/
def State.setPortalControl (s : State) (v : Word) : State :=
  if h : (hiByte v).toNat < 8 then
    match PortalMode.ofByte (loByte v) with
    | some m => { s with mi := { s.mi with table := ⟨(hiByte v).toNat, h⟩, mode := m, status := .ok } }
    | none => s.setStatus .refusedRange
  else s.setStatus .refusedRange

/-- PORTAL_CONTROL (R173). -/
def execPortalControl (w : WordIn) (s : State) : Host.Outcome State Fault Refusal :=
  .next (s.whenUp fun s => s.intake .portalControl w State.setPortalControl)

/-! Which row a PORTAL DATA word belongs to (R174 to R178). -/

/-- What a PORTAL DATA word written now would be, by mode, table and address. -/
inductive PortalWrite where
  | address | descriptor | load | role | response | timing | refused
  deriving DecidableEq, Repr

/-- The address lies in the selected table (R174). -/
def Management.inTable (m : Management) : Bool := decide (m.addr < tableSize m.table)

/-- The slot and the word number of a table 0 address: slot × 16 + word (01, Formats). -/
def descriptorSlot (addr : Nat) : Slot := Fin.ofNat 64 (addr / 16)

/-- The row that a PORTAL DATA word written now belongs to (log 18). -/
def Management.portalWrite (m : Management) : PortalWrite :=
  if m.mode = .address then .address
  else if !m.inTable then .refused
  else
    match m.table.val with
    | 0 => if m.addr % 16 < 14 then .descriptor else if m.addr % 16 = 14 then .load else .refused
    | 2 => .role
    | 3 => .response
    | 4 => .timing
    | _ => .refused

/-- The next address of the table; after the last one, 0 (R174). -/
def Management.nextAddr (m : Management) : Nat := if m.addr + 1 = tableSize m.table then 0 else m.addr + 1

/-- A write is taken: status OK, and the address steps in DATA-STEP and DATA-STEP-WRITE (R174). -/
def State.takenWrite (s : State) : State :=
  match s.mi.mode with
  | .dataStep | .dataStepWrite => { s with mi := { s.mi with status := .ok, addr := s.mi.nextAddr } }
  | .address | .data => s.setStatus .ok

/-- A row of a PORTAL DATA word: it is this row's event only where the portal makes the word one of this row (log 18). -/
def State.portalRow (s : State) (k : PortalWrite) (w : WordIn) (act : State → Word → State) : State :=
  if s.mi.portalWrite = k then s.intake .portalData w act else s

/-- PORTAL_ADDRESS_WRITE: the address set, or refused (R174). -/
def State.setPortalAddress (s : State) (v : Word) : State :=
  if v.toNat < tableSize s.mi.table then { s with mi := { s.mi with addr := v.toNat, status := .ok } }
  else s.setStatus .refusedAddress

/-- PORTAL_ADDRESS_WRITE (R174). -/
def execPortalAddressWrite (w : WordIn) (s : State) : Host.Outcome State Fault Refusal :=
  .next (s.whenUp fun s => s.portalRow .address w State.setPortalAddress)

/-! Descriptors (R177, R178). -/

/-- A descriptor word stored as written (R3). -/
def SlotRec.store (r : SlotRec) (k : Nat) (v : Word) : SlotRec := { r with desc := r.desc.setIfInBounds k v }

/-- DESCRIPTOR_WRITE: stored for a VACANT slot, stored with the return to VACANT for a LOADED one, refused otherwise (R177). -/
def State.writeDescriptor (s : State) (v : Word) : State :=
  let n := descriptorSlot s.mi.addr
  let stored := s.modSlot n fun r => r.store (s.mi.addr % 16) v
  match (s.slot n).stage with
  | .vacant => stored.takenWrite
  | .loaded => (stored.vacate n).takenWrite
  | .scanning | .decoding | .composing | .freezing | .frozen | .verified | .held | .sweeping =>
    s.setStatus .refusedStage

/-- DESCRIPTOR_WRITE (R177). -/
def execDescriptorWrite (w : WordIn) (s : State) : Host.Outcome State Fault Refusal :=
  .next (s.whenUp fun s => s.portalRow .descriptor w State.writeDescriptor)

/-- A character 20h–7Eh (R4). -/
def printable (b : Byte) : Bool := decide (0x20 ≤ b.toNat) && decide (b.toNat ≤ 0x7E)

/-- Requested predecessor in range: a slot number that is not the slot's own, or FFFFh (R4). -/
def SlotRec.requestedInRange (r : SlotRec) (n : Slot) : Bool :=
  r.requested == 0xFFFF#16 || (decide (r.requested.toNat < 64) && r.requested.toNat != n.val)

/-- Every field of the descriptor lies in the range of R4. -/
def SlotRec.fieldsInRange (r : SlotRec) (n : Slot) : Bool :=
  decide (r.base ≤ 4095) && decide (2 ≤ r.limit) && decide (r.limit ≤ 64) && r.requestedInRange n &&
    (r.key.take 16).all printable &&
    decide (1 ≤ r.desc[11].toNat) && decide (r.desc[11].toNat ≤ 999) &&
    decide (1 ≤ r.sectionNo) && decide (r.sectionNo ≤ 15) &&
    decide (1 ≤ r.sectionCount) && decide (r.sectionCount ≤ 15) && decide (r.sectionNo ≤ r.sectionCount) &&
    (r.key.drop 20).all printable

/-- Two regions share a granule (R7). -/
def SlotRec.shares (r q : SlotRec) : Bool := decide (r.base < q.base + q.limit) && decide (q.base < r.base + r.limit)

/-- The region shares a granule with the region of another slot that is not VACANT (R7, R178). -/
def State.overlaps (s : State) (n : Slot) : Bool :=
  (List.finRange 64).any fun m => m != n && (s.slot m).stage != .vacant && (s.slot n).shares (s.slot m)

/-- The region runs past the end of memory (R5, R7). -/
def State.pastMemory (s : State) (n : Slot) : Bool :=
  decide (granuleCount s.pins.msize < (s.slot n).base + (s.slot n).limit)

/-- The result of a LOAD of a slot, by its three checks in order (R178). -/
def State.loadResult (s : State) (n : Slot) : PortalStatus :=
  if (s.slot n).stage != .vacant && (s.slot n).stage != .loaded then .refusedStage
  else if !(s.slot n).fieldsInRange n then .refusedRange
  else if s.pastMemory n || s.overlaps n then .refusedOverlap
  else .ok

/-- LOAD: word 14 written (R178). A VACANT slot that passes moves to LOADED; a LOADED slot that passes stays as it is. -/
def State.loadDescriptor (s : State) (v : Word) : State :=
  let n := descriptorSlot s.mi.addr
  if v != 1#16 then s.setStatus .refusedRange
  else
    match s.loadResult n with
    | .ok => if (s.slot n).stage = .vacant then (s.changeStage n .loaded).takenWrite else s.takenWrite
    | .refusedStage => s.setStatus .refusedStage
    | .refusedRange => s.setStatus .refusedRange
    | .refusedOverlap => s.setStatus .refusedOverlap
    | .empty => s.setStatus .empty
    | .refusedAddress => s.setStatus .refusedAddress
    | .readOnly => s.setStatus .readOnly

/-- LOAD (R178). -/
def execLoad (w : WordIn) (s : State) : Host.Outcome State Fault Refusal :=
  .next (s.whenUp fun s => s.portalRow .load w State.loadDescriptor)

/-! Roles, responses, timing (R180). -/

/-- AGENT_ROLE_WRITE: a role 0000h–0006h taken (R18, R19). -/
def State.writeRole (s : State) (v : Word) : State :=
  match Role.ofWord v with
  | some r => { s with acc := { s.acc with roles := s.acc.roles.setIfInBounds s.mi.addr r } }.takenWrite
  | none => s.setStatus .refusedRange

/-- AGENT_ROLE_WRITE (R19). -/
def execAgentRoleWrite (w : WordIn) (s : State) : Host.Outcome State Fault Refusal :=
  .next (s.whenUp fun s => s.portalRow .role w State.writeRole)

/-- FAULT_RESPONSE_WRITE: a response allowed for the kind taken (R143). -/
def State.writeResponse (s : State) (v : Word) : State :=
  match Response.ofWord v with
  | some r =>
    if (FaultKind.ofEntry s.mi.addr).allows r then
      { s with fu := { s.fu with responses := s.fu.responses.setIfInBounds s.mi.addr r } }.takenWrite
    else s.setStatus .refusedRange
  | none => s.setStatus .refusedRange

/-- FAULT_RESPONSE_WRITE (R143). -/
def execFaultResponseWrite (w : WordIn) (s : State) : Host.Outcome State Fault Refusal :=
  .next (s.whenUp fun s => s.portalRow .response w State.writeResponse)

/-- The range of a timing word (R66). -/
def timingInRange (addr : Nat) (v : Word) : Bool :=
  match addr with
  | 0 => decide (v.toNat ≤ 15)
  | 1 => decide (1 ≤ v.toNat) && decide (v.toNat ≤ 255)
  | 2 => decide (v.toNat ≤ 255)
  | _ => decide (v.toNat ≤ 7)

/-- A timing word set (R66). -/
def Timing.set (t : Timing) (addr : Nat) (v : Word) : Timing :=
  match addr with
  | 0 => { t with guardInterval := v }
  | 1 => { t with lockTimeout := v }
  | 2 => { t with retryDelay := v }
  | _ => { t with retryLimit := v }

/-- A timing word. -/
def Timing.get (t : Timing) (addr : Nat) : Word :=
  match addr with
  | 0 => t.guardInterval
  | 1 => t.lockTimeout
  | 2 => t.retryDelay
  | _ => t.retryLimit

/-- TIMING_WRITE: a value in range taken, for timers started afterwards (R66). -/
def State.writeTiming (s : State) (v : Word) : State :=
  if timingInRange s.mi.addr v then
    { s with su := { s.su with timing := s.su.timing.set s.mi.addr v } }.takenWrite
  else s.setStatus .refusedRange

/-- TIMING_WRITE (R66). -/
def execTimingWrite (w : WordIn) (s : State) : Host.Outcome State Fault Refusal :=
  .next (s.whenUp fun s => s.portalRow .timing w State.writeTiming)

/-! READ_ONLY (R169, R175). -/

/-- A word written to a read-only table word or beyond the table: REFUSED-ADDRESS is judged before READ-ONLY (R175). -/
def State.refuseWord (s : State) (_v : Word) : State :=
  if s.mi.inTable then s.setStatus .readOnly else s.setStatus .refusedAddress

/-- A data byte that no item takes: the transaction's item byte was not acknowledged (R168), the item is read-only, or the byte is past the
item's width (R169). -/
def Management.strayByte (m : Management) : Bool :=
  m.line == .refusing ||
    (m.line == .writing && (m.item.isReadOnly || (m.item != .portalData && decide (2 ≤ m.bytePos))))

/-- READ_ONLY (R175). -/
def State.readOnlyWrite (s : State) (w : ReadOnlyWrite) : State :=
  match w with
  | .portalWord v => s.portalRow .refused v State.refuseWord
  | .dataByte _ => if s.mi.strayByte then { s with mi := { s.mi with acked := false } } else s

/-- READ_ONLY. -/
def execReadOnly (w : ReadOnlyWrite) (s : State) : Host.Outcome State Fault Refusal :=
  .next (s.whenUp fun s => s.readOnlyWrite w)

/-! Reads (R174, R176, R181). -/

/-- Word `k` of table 0 for a slot: descriptor words, 0000h at word 14, the stage code at word 15. -/
def SlotRec.descriptorWord (r : SlotRec) (k : Nat) : Word :=
  if k < 14 then r.desc.toList.getD k 0#16
  else if k = 14 then 0#16
  else toWord r.stage.code

/-- Word `k` of table 7: the count, then the sweep queue oldest first, FFFFh past it (R176). -/
def State.sweepView (s : State) (k : Nat) : Word :=
  if k = 0 then toWord s.sw.queue.length
  else
    match s.sw.queue[k - 1]? with
    | some n => toWord n.val
    | none => 0xFFFF#16

/-- The word of table `t` at address `a` (R176; tables 5 and 6 as R181). -/
def State.tableWord (s : State) (t : Fin 8) (a : Nat) : Word :=
  match t.val with
  | 0 => (s.slot (descriptorSlot a)).descriptorWord (a % 16)
  | 1 => joinBytes (s.statusByte (Fin.ofNat 64 (a / 8)) (2 * (a % 8))) (s.statusByte (Fin.ofNat 64 (a / 8)) (2 * (a % 8) + 1))
  | 2 => toWord ((s.acc.roles.toList.getD a .unassigned).code)
  | 3 => toWord ((s.fu.responses.toList.getD a .report).code)
  | 4 => s.su.timing.get a
  | 5 =>
    match s.fu.log with
    | r :: _ => r.word a
    | [] => 0#16
  | 6 =>
    match s.su.verified with
    | n :: _ => toWord n.val
    | [] => 0xFFFF#16
  | _ => s.sweepView a

/-- The word a PORTAL DATA read returns: the address in ADDRESS mode, FFFFh beyond the table, else the table word (R174). -/
def State.portalDataWord (s : State) : Word :=
  if s.mi.mode = .address then toWord s.mi.addr
  else if s.mi.inTable then s.tableWord s.mi.table s.mi.addr
  else 0xFFFF#16

/-- A completed read that returned a value: status, and the step of DATA-STEP (R174). -/
def State.completedRead (s : State) (st : PortalStatus) : State :=
  match s.mi.mode with
  | .dataStep => { s with mi := { s.mi with status := st, addr := s.mi.nextAddr } }
  | .address | .data | .dataStepWrite => s.setStatus st

/-- The row that reads a PORTAL DATA word: table 5 and table 6 in the data modes have rows of their own. -/
inductive PortalRead where
  | plain | log | verified
  deriving DecidableEq, Repr

/-- The row a PORTAL DATA read now belongs to (log 18). -/
def Management.portalRead (m : Management) : PortalRead :=
  if m.mode = .address then .plain
  else
    match m.table.val with
    | 5 => .log
    | 6 => .verified
    | _ => .plain

/-- The value of a PORTAL_DATA_READ. -/
def State.choosePortalWord (s : State) : Sending × List Byte := (.portalWord, wordBytes s.portalDataWord)

/-- PORTAL_DATA_READ's end (R174): OK and a step, or REFUSED-ADDRESS and none. -/
def State.finishPortalWord (s : State) (_ : Sending) : State :=
  if s.mi.mode = .address then s.setStatus .ok
  else if s.mi.inTable then s.completedRead .ok
  else s.setStatus .refusedAddress

/-- A value in sending is a plain PORTAL DATA word. -/
def Sending.isPortalWord : Sending → Bool
  | .portalWord => true
  | .logWord _ | .verifiedWord _ _ | .causeByte _ _ => false

/-- PORTAL_DATA_READ (R174). -/
def execPortalDataRead (p : ReadPart) (s : State) : Host.Outcome State Fault Refusal :=
  .next (s.whenUp fun s =>
    if s.mi.portalRead = .plain then
      s.readRow .portalData p 2 State.choosePortalWord Sending.isPortalWord State.finishPortalWord
    else s)

/-- The value of a CUSTODY_LOG_READ: a word of the oldest record, chosen now (R181). -/
def State.chooseLogWord (s : State) : Sending × List Byte :=
  (.logWord (!s.fu.log.isEmpty), wordBytes s.portalDataWord)

/-- The oldest record removed; the overflow flag clears when the log becomes empty (R158, R159). -/
def State.popLog (s : State) : State :=
  { s with
    fu := { s.fu with
      log := s.fu.log.tail
      overflow := if s.fu.log.tail.isEmpty then false else s.fu.overflow } }

/-- CUSTODY_LOG_READ's end (R181): EMPTY from an empty log; word 7 of a record pops it. -/
def State.finishLogWord (s : State) (x : Sending) : State :=
  if !s.mi.inTable then s.setStatus .refusedAddress
  else
    match x with
    | .logWord true => (if s.mi.addr = 7 then s.popLog else s).completedRead .ok
    | .logWord false => s.completedRead .empty
    | .portalWord | .verifiedWord _ _ | .causeByte _ _ => s

/-- A value in sending is a custody log word. -/
def Sending.isLogWord : Sending → Bool
  | .logWord _ => true
  | .portalWord | .verifiedWord _ _ | .causeByte _ _ => false

/-- CUSTODY_LOG_READ (R181). -/
def execCustodyLogRead (p : ReadPart) (s : State) : Host.Outcome State Fault Refusal :=
  .next (s.whenUp fun s =>
    if s.mi.portalRead = .log then
      s.readRow .portalData p 2 State.chooseLogWord Sending.isLogWord State.finishLogWord
    else s)

/-- The value of a VERIFIED_QUEUE_READ: the head of the verified queue, chosen now (R181). -/
def State.chooseVerifiedWord (s : State) : Sending × List Byte :=
  (.verifiedWord s.su.verified.head? false, wordBytes s.portalDataWord)

/-- VERIFIED_QUEUE_READ's end (R60, R181): the slot returned leaves the queue, if it is still there. Where a RETIRE, DISCARD or hold removed it in
between, nothing further is removed, though the slot may have joined the queue anew. -/
def State.finishVerifiedWord (s : State) (x : Sending) : State :=
  if !s.mi.inTable then s.setStatus .refusedAddress
  else
    match x with
    | .verifiedWord (some n) gone => (if gone then s else s.leaveVerified n).completedRead .ok
    | .verifiedWord none _ => s.completedRead .empty
    | .portalWord | .logWord _ | .causeByte _ _ => s

/-- A value in sending is a verified queue word. -/
def Sending.isVerifiedWord : Sending → Bool
  | .verifiedWord _ _ => true
  | .portalWord | .logWord _ | .causeByte _ _ => false

/-- VERIFIED_QUEUE_READ (R181). -/
def execVerifiedQueueRead (p : ReadPart) (s : State) : Host.Outcome State Fault Refusal :=
  .next (s.whenUp fun s =>
    if s.mi.portalRead = .verified then
      s.readRow .portalData p 2 State.chooseVerifiedWord Sending.isVerifiedWord State.finishVerifiedWord
    else s)

end Sys2Proof.Machine
end

