-- ==== Sys2Proof/Machine/IndexMatch.lean ====
section
/-! DEFINITION. The Index Matcher: match states, closings, the key directory (chapter 4). -/

namespace Sys2Proof.Machine

/-- The state of a key byte after a write of `bytes` at `offset` (R70): compared where covered, kept elsewhere. Key byte `k`
stands at window offset 040h + k. -/
def SlotRec.keyAfter (r : SlotRec) (offset : Nat) (bytes : List Byte) (k : Fin 22) : KeyState :=
  if coversByte offset bytes.length (0x40 + k.val) then
    if bytes.getD (0x40 + k.val - offset) 0#8 = r.key.getD k.val 0#8 then .matched else .mismatched
  else r.keys[k.val]

/-- The match state follows an accepted DECODER write to INDEX (R70). -/
def SlotRec.follow (r : SlotRec) (offset : Nat) (bytes : List Byte) : SlotRec :=
  { r with keys := buildVector 22 fun k => r.keyAfter offset bytes k }

/-- The closing that a write makes: it covers 07Ch–07Fh whole, its code byte is 01h or 02h and its mark is 7Eh 7Eh 7Eh (R72). -/
def closingOf (offset : Nat) (bytes : List Byte) : Option Closing :=
  let byteAt := fun x => bytes.getD (x - offset) 0#8
  if coversByte offset bytes.length 0x7C && coversByte offset bytes.length 0x7F &&
      byteAt 0x7D == 0x7E#8 && byteAt 0x7E == 0x7E#8 && byteAt 0x7F == 0x7E#8 then
    if byteAt 0x7C = 1#8 then some .complete
    else if byteAt 0x7C = 2#8 then some .void
    else none
  else none

/-- The number of key bytes in MATCH. -/
def SlotRec.matchCount (r : SlotRec) : Nat := r.keys.toList.count .matched

/-- The fault report of a closing (R76). -/
def SlotRec.closingReport (r : SlotRec) (n : Slot) (t : Tag) (offset : Nat) (kind : FaultKind) (detail : FaultDetail)
    (a : Nat) : Report where
  kind := kind
  slot := n
  agent := some t
  stage := .decoding
  detail := detail
  offset := some offset
  valueA := toWord a
  valueB := pairWord (if r.closingSeen then 1 else 0) r.matchCount
  readback := none

/-- A key of another slot equal to a key in all 22 bytes (R73, step 3). -/
def State.duplicateOf (s : State) (n : Slot) : Option KeyEntry :=
  s.directory.find? fun e => e.slot != n && e.key == (s.slot n).key

/-- The key is established: entered in the directory, its flag set, and the slot moved to COMPOSING, as one event (R74). -/
def State.establishKey (s : State) (n : Slot) : State :=
  let entered : State := { s with directory := s.directory ++ [{ slot := n, key := (s.slot n).key }] }
  (entered.modSlot n fun r => { r with keyEst := true }).changeStage n .composing

/-- A COMPLETE closing is judged in the four steps of R73. -/
def State.judgeComplete (s : State) (n : Slot) (t : Tag) (offset : Nat) : State :=
  let r := s.slot n
  match r.keys.toList.idxOf? .unwritten with
  | some k => s.report (r.closingReport n t offset .index .indexUnwritten k)
  | none =>
    match r.keys.toList.idxOf? .mismatched with
    | some k => s.report (r.closingReport n t offset .index .indexMismatch k)
    | none =>
      match s.duplicateOf n with
      | some e => s.report (r.closingReport n t offset .duplicate .plain e.slot.val)
      | none => s.establishKey n

/-- The index tap: key bytes compared first, then the closing field examined (R70, R72, R75). -/
def State.indexTap (s : State) (n : Slot) (t : Tag) (offset : Nat) (bytes : List Byte) : State :=
  let s₁ := s.modSlot n fun r => r.follow offset bytes
  match closingOf offset bytes with
  | some .complete => s₁.judgeComplete n t offset
  | some .void => s₁.report ((s₁.slot n).closingReport n t offset .void .plain 0)
  | none => s₁

end Sys2Proof.Machine
end

