-- ==== Sys2Proof/Machine/StageUnit.lean ====
section
/-! DEFINITION. The Stage Unit's taking of a write to the status block: the tests of R44 and the seven requests (chapters 3 and 5). -/

namespace Sys2Proof.Machine

/-- The request codes (R43). -/
def StageRequest.code : StageRequest → Byte
  | .openCard => 0x11#8 | .frameDone => 0x12#8 | .freeze => 0x13#8 | .retire => 0x14#8
  | .reopen => 0x15#8 | .resume => 0x16#8 | .discard => 0x17#8

/-- The request a code names. -/
def StageRequest.ofCode (b : Byte) : Option StageRequest :=
  if b = 0x11#8 then some .openCard
  else if b = 0x12#8 then some .frameDone
  else if b = 0x13#8 then some .freeze
  else if b = 0x14#8 then some .retire
  else if b = 0x15#8 then some .reopen
  else if b = 0x16#8 then some .resume
  else if b = 0x17#8 then some .discard
  else none

/-- The role the request table gives (R43). -/
def StageRequest.role : StageRequest → Role
  | .frameDone => .scanner
  | .openCard | .freeze | .retire | .reopen | .resume | .discard => .controller

/-- The stage RESUME leads to, by the held-from stage (R56). -/
def resumeTarget (heldFrom : Stage) : Option Stage :=
  match heldFrom with
  | .scanning => some .scanning
  | .decoding => some .decoding
  | .composing => some .composing
  | .freezing => some .composing
  | .frozen => some .frozen
  | .verified => some .verified
  | .sweeping => some .sweeping
  | .vacant | .loaded | .held => none

/-- REOPEN is taken from HELD with one of these held-from stages (R43, R58). -/
def reopenable (heldFrom : Stage) : Bool :=
  match heldFrom with
  | .scanning | .decoding | .composing | .freezing | .frozen | .verified => true
  | .vacant | .loaded | .held | .sweeping => false

/-- Tests 4 and 5 of R44: the slot's stage, and in HELD its held-from stage, is one in which the table takes the request. -/
def StageRequest.takenIn (q : StageRequest) (r : SlotRec) : Bool :=
  match q with
  | .openCard => r.stage == .loaded
  | .frameDone => r.stage == .scanning
  | .freeze => r.stage == .composing
  | .retire => r.stage == .verified
  | .reopen => r.stage == .held && r.heldFrom.any reopenable
  | .resume => r.stage == .held && (r.heldFrom.bind resumeTarget).isSome
  | .discard =>
    match r.stage with
    | .loaded | .scanning | .decoding | .composing | .freezing | .frozen | .verified | .held => true
    | .vacant | .sweeping => false

/-- The predecessor is in service (R85): SCANNING through VERIFIED, or HELD from a stage other than SWEEPING. -/
def SlotRec.inService (r : SlotRec) : Bool :=
  match r.stage with
  | .scanning | .decoding | .composing | .freezing | .frozen | .verified => true
  | .held => r.heldFrom != some .sweeping
  | .vacant | .loaded | .sweeping => false

/-- Same drawing number, sheet, revision and section count (R85). -/
def SlotRec.sameSheet (r p : SlotRec) : Bool :=
  r.key.take 18 == p.key.take 18 && r.desc[13] == p.desc[13] && r.sectionCount == p.sectionCount

/-- The five chain checks of an OPEN of `n` that requests `p` (R85). -/
def State.chainChecks (s : State) (n p : Slot) : Bool :=
  (s.slot p).inService && (s.slot p).succ.isNone && p != n && (s.slot n).sameSheet (s.slot p) &&
    (s.slot n).sectionNo == (s.slot p).sectionNo + 1

/-- The slot a requested-predecessor word names, 0–63 (R84). -/
def slotOfWord (w : Word) : Option Slot := if h : w.toNat < 64 then some ⟨w.toNat, h⟩ else none

/-- Test 6 of R44: no requested predecessor, or the chain checks pass. A word that is no slot number and not FFFFh cannot stand
in a LOADED slot's descriptor (R4); it fails the test (log 20). -/
def State.chainPasses (s : State) (n : Slot) : Bool :=
  if (s.slot n).requested = 0xFFFF#16 then true
  else
    match slotOfWord (s.slot n).requested with
    | some p => s.chainChecks n p
    | none => false

/-- Test 7 of R44: the live successor whose punch-complete is set, if there is one (R94). -/
def State.punchedSuccessor (s : State) (n : Slot) : Option Slot :=
  match (s.slot n).succ with
  | some q => if (s.slot q).punch then some q else none
  | none => none

/-- What the Stage Unit makes of a write: a request taken, or the refusal detail with the low byte of value B (R44, R45). -/
inductive Judgement where
  | taken (q : StageRequest)
  | refused (detail : FaultDetail) (low : Nat)
  deriving DecidableEq, Repr

/-- The write is exactly one byte at offset 000h. -/
def StageWrite.isRequestForm (w : StageWrite) : Bool := w.size == 1 && w.offset == 0

/-- Tests 6 and 7, and the taking (R44). -/
def State.judgeChain (s : State) (n : Slot) (q : StageRequest) : Judgement :=
  match q with
  | .openCard => if s.chainPasses n then .taken q else .refused .chainRefused (loByte (s.slot n).requested).toNat
  | .reopen =>
    match s.punchedSuccessor n with
    | some p => .refused .chainRefused p.val
    | none => .taken q
  | .frameDone | .freeze | .retire | .resume | .discard => .taken q

/-- The tests of R44 in their order; the first that fails refuses the write. -/
def State.judgeWrite (s : State) (w : StageWrite) : Judgement :=
  if !w.isRequestForm then .refused .malformed 1
  else
    match StageRequest.ofCode w.code with
    | none => .refused .unknownCode 1
    | some q =>
      if w.role != q.role then .refused .wrongRole 1
      else if !q.takenIn (s.slot w.slot) then .refused .wrongStage 1
      else s.judgeChain w.slot q

/-- The REQUEST fault report (R45). -/
def State.requestReport (s : State) (w : StageWrite) (detail : FaultDetail) (low : Nat) : Report where
  kind := .request
  slot := w.slot
  agent := some w.tag
  stage := (s.slot w.slot).stage
  detail := detail
  offset := some w.offset
  valueA := if w.isRequestForm then w.code.setWidth 16 else toWord w.size
  valueB := pairWord w.role.code low
  readback := none

/-! The requests taken. -/

/-- The links of an OPEN that requests a predecessor, both halves (R86). -/
def State.linkRequested (s : State) (n : Slot) : State :=
  if (s.slot n).requested = 0xFFFF#16 then s
  else
    match slotOfWord (s.slot n).requested with
    | some p => (s.modSlot n fun r => { r with pred := some p }).modSlot p fun r => { r with succ := some n }
    | none => s

/-- OPEN taken (R48, R86). -/
def State.takeOpen (s : State) (n : Slot) : State :=
  ((s.linkRequested n).changeStage n .scanning).modSlot n fun r => { r with lastFault := none }

/-- FRAME DONE taken (R49). -/
def State.takeFrameDone (s : State) (n : Slot) : State :=
  (s.changeStage n .decoding).modSlot n fun r => r.resetMatch false

/-- FREEZE taken (R50). -/
def State.takeFreeze (s : State) (n : Slot) : State := ((s.changeStage n .freezing).joinFreezeList n).arbitrate

/-- RETIRE taken (R51, R89). -/
def State.takeRetire (s : State) (n : Slot) : State :=
  ((((s.leaveVerified n).releaseKey n).unlink n).changeStage n .sweeping).joinSweep n

/-- The ORPHAN fault report of a discarded predecessor's successor (R91). -/
def State.orphanReport (s : State) (x q : Slot) (t : Tag) : Report where
  kind := .chain
  slot := q
  agent := some t
  stage := (s.slot q).stage
  detail := .orphan
  offset := none
  valueA := toWord x.val
  valueB := pairWord (s.slot x).stage.code (if (s.slot x).punch then 1 else 0)
  readback := none

/-- The ORPHAN fault, if the discarded slot is a live predecessor (R90); `s` is the state before the DISCARD. -/
def State.raiseOrphan (after s : State) (x : Slot) (t : Tag) : State :=
  match (s.slot x).succ with
  | some q => after.report (s.orphanReport x q t)
  | none => after

/-- What a DISCARD undoes, by the stage it is taken in (R53, table); the retry timer stops (R114). -/
def State.undoForDiscard (s : State) (n : Slot) : State :=
  match (s.slot n).stage with
  | .freezing => s.abandonFreeze n
  | .frozen => s.modSlot n fun r => { r with retryTimer := none }
  | .verified => s.leaveVerified n
  | .vacant | .loaded | .scanning | .decoding | .composing | .held | .sweeping => s

/-- DISCARD taken (R52, R53). -/
def State.takeDiscard (s : State) (n : Slot) (t : Tag) : State :=
  if (s.slot n).stage = .loaded then s.vacate n
  else
    ((((((s.undoForDiscard n).releaseKey n).unlink n).changeStage n .sweeping).joinSweep n).raiseOrphan s n t).arbitrate

/-- What a RESUME clears or redoes, by the held-from stage (R56). -/
def State.redoForResume (s : State) (n : Slot) (heldFrom : Stage) : State :=
  match heldFrom with
  | .decoding => s.modSlot n fun r => r.resetMatch false
  | .frozen => s.modSlot n fun r => { r with rbPtr := 0x170, runCrc := 0xFFFF#16, retryCount := 0 }
  | .verified => s.joinVerified n
  | .sweeping => s.joinSweep n
  | .vacant | .loaded | .scanning | .composing | .freezing | .held => s

/-- RESUME taken (R56). -/
def State.takeResume (s : State) (n : Slot) : State :=
  match (s.slot n).heldFrom with
  | some h =>
    match resumeTarget h with
    | some st => (s.changeStage n st).redoForResume n h
    | none => s
  | none => s

/-- REOPEN taken (R58): key, match state, card check state and completion flags cleared. -/
def State.takeReopen (s : State) (n : Slot) : State :=
  ((s.releaseKey n).changeStage n .scanning).modSlot n fun r =>
    { (r.freshCheck.resetMatch false) with punch := false, print := false }

/-- A request taken makes its change (R43). -/
def State.takeRequest (s : State) (n : Slot) (t : Tag) (q : StageRequest) : State :=
  match q with
  | .openCard => s.takeOpen n
  | .frameDone => s.takeFrameDone n
  | .freeze => s.takeFreeze n
  | .retire => s.takeRetire n
  | .reopen => s.takeReopen n
  | .resume => s.takeResume n
  | .discard => s.takeDiscard n t

/-- THE STAGE UNIT TAKES A WRITE that passed step 6 (R28, R43, R44): refused without the tests while the bridge is BLOCKED,
refused with a REQUEST fault by the first test that fails, or taken. A refusal ends the writer's lock if the write carries
lock-close (R120). -/
def State.takeWrite (s : State) (w : StageWrite) : State :=
  if s.fu.bridge = .blocked then (s.answer .denied []).endLock w.lclose w.slot w.tag
  else
    match s.judgeWrite w with
    | .refused detail low =>
      ((s.answer .denied []).endLock w.lclose w.slot w.tag).report (s.requestReport w detail low)
    | .taken q => (s.answer .accepted []).takeRequest w.slot w.tag q

end Sys2Proof.Machine
end

