-- ==== Sys2Proof/Machine/Access.lean ====
section
/-! DEFINITION. The Access Checker: the ordered checks of R22 and STAGING_BUS_ACCESS (chapters 2 and 7). -/

namespace Sys2Proof.Machine

/-! The conditions of the steps (R22). -/

/-- Step 1: the bridge is BLOCKED and the access is not a CONTROLLER read (R23). -/
def State.stopsBlocked (s : State) (a : Access) : Bool :=
  s.fu.bridge == .blocked && !(s.role a.tag == .controller && !a.wr)

/-- Step 5: the offset is at or beyond limit × 4096 (R6, R27). -/
def State.beyondLimit (s : State) (a : Access) : Bool :=
  decide ((s.slot a.slot).limit * Config.granule ≤ a.offset)

/-- Step 9: the area of the first byte, by offset, in which the role lacks the right (R31, R32). -/
def State.lacking (s : State) (a : Access) : Option Area := a.lackingArea (s.role a.tag) (s.slot a.slot).stage

/-- Step 10, a lock-open read whose tag already holds a lock, here or elsewhere (R118). -/
def State.isSecond (s : State) (a : Access) : Bool := !a.wr && a.lopen && (s.lockBy a.tag).isSome

/-- Step 10, a lock-close write to a slot on which no agent holds a lock (R121). -/
def State.isLate (s : State) (a : Access) : Bool := a.wr && a.lclose && (s.lockOn a.slot).isNone

/-- Step 12, a PUNCH read of CARD while the predecessor is unpunched (R35). -/
def State.punchWaits (s : State) (a : Access) : Bool :=
  s.role a.tag == .punch && !a.wr && coversArea a.offset a.size .card && s.chainWait a.slot

/-- A VERIFIER write that covers a byte of READBACK (R36). -/
def State.isReadbackWrite (s : State) (a : Access) : Bool :=
  s.role a.tag == .verifier && a.wr && coversArea a.offset a.size .readback

/-- Step 12, a read-back write that comes too early (R36). -/
def State.readbackWaits (s : State) (a : Access) : Bool :=
  s.isReadbackWrite a &&
    (!(s.slot a.slot).punch || !(s.slot a.slot).print || (s.slot a.slot).retryTimer.isSome)

/-- Step 12, a read-back write that does not start at the read-back pointer (R36). -/
def State.offSequence (s : State) (a : Access) : Bool :=
  s.isReadbackWrite a && a.offset != (s.slot a.slot).rbPtr

/-- Step 13: the memory queue holds 16 accesses (R37). -/
def State.queueFull (s : State) : Bool := decide (Config.queuePlaces ≤ s.mp.queue.length)

/-- The condition of each step of R22. -/
def State.stepHolds (s : State) (a : Access) (step : Nat) : Bool :=
  match step with
  | 1 => s.stopsBlocked a
  | 2 => s.role a.tag == .unassigned
  | 3 => a.isStatusRead
  | 4 => (s.slot a.slot).stage == .vacant
  | 5 => s.beyondLimit a
  | 6 => a.isStageWrite
  | 7 => (s.slot a.slot).stage == .freezing || (s.slot a.slot).stage == .sweeping
  | 8 => (s.slot a.slot).stage == .held && s.role a.tag != .controller
  | 9 => (s.lacking a).isSome
  | 10 => s.lockedByOther a.slot a.tag || s.isSecond a || s.isLate a
  | 11 => (s.slot a.slot).guardActive
  | 12 => s.punchWaits a || s.readbackWaits a || s.offSequence a
  | 13 => s.queueFull
  | _ => true

/-- The first step whose condition holds decides the access (R22). -/
def State.decidingStep (s : State) (a : Access) : Nat :=
  ([1, 2, 3, 4, 5, 6, 7, 8, 9, 10, 11, 12, 13].find? fun k => s.stepHolds a k).getD 14

/-! Outcomes of the steps. -/

/-- The data of a denied access: every byte a read covers is 00h (R21). -/
def deniedData (a : Access) : List Byte := if a.wr then [] else zeroBytes a.size

/-- DENIED, with the lock ended when the access is the holder's close (R21, R120). -/
def State.deny (s : State) (a : Access) : State :=
  (s.answer .denied (deniedData a)).endLock (a.wr && a.lclose) a.slot a.tag

/-- WAIT changes no state (R41). -/
def State.wait (s : State) : State := s.answer .wait []

/-- The fault report of steps 2, 4, 5 and 9 (R42). -/
def State.checkReport (s : State) (a : Access) (kind : FaultKind) (detail : FaultDetail) : Report where
  kind := kind
  slot := a.slot
  agent := some a.tag
  stage := (s.slot a.slot).stage
  detail := detail
  offset := some a.offset
  valueA := toWord a.size
  valueB := pairWord (s.role a.tag).code (if a.wr then 1 else 0)
  readback := none

/-- An access enters the memory queue with its physical address (R6, R38, R39, R125). -/
def State.enqueue (s : State) (a : Access) (overlay : Bool) : State :=
  { s with
    mp := { s.mp with
      queue := s.mp.queue ++
        [{ wr := a.wr, size := a.size, slot := a.slot, offset := a.offset
           pa := (s.slot a.slot).base * Config.granule + a.offset, tag := a.tag, role := s.role a.tag
           data := if a.wr then a.bytes else [], overlay := overlay }] } }

/-- Step 3: a status-block read (R13, R14, R25). -/
def State.statusRead (s : State) (a : Access) : State :=
  let st := (s.slot a.slot).stage
  if a.size ≤ 16 then s.answer .accepted (((s.statusBytes a.slot).drop a.offset).take a.size)
  else if st = .vacant ∨ st = .sweeping then
    s.answer .accepted (s.statusBytes a.slot ++ zeroBytes (a.size - 16))
  else if s.queueFull then s.wait
  else (s.enqueue a true).arbitrate

/-- The write as the Stage Unit receives it (R28). -/
def State.stageWriteOf (s : State) (a : Access) : StageWrite where
  slot := a.slot
  tag := a.tag
  role := s.role a.tag
  offset := a.offset
  size := a.size
  code := a.bytes.headD 0#8
  lclose := a.lclose

/-- Step 6: a write covering STATUS waits behind another agent's lock, or goes to the Stage Unit, which takes it in this event or,
`deferred`, in a later one of the same edge (R28, R184, log 4). -/
def State.stageWrite (s : State) (a : Access) (deferred : Bool) : State :=
  if s.lockedByOther a.slot a.tag then s.wait
  else if deferred then { s with su := { s.su with handed := some (s.stageWriteOf a) } }
  else s.takeWrite (s.stageWriteOf a)

/-- Step 10 (R33, R118, R121): another agent's lock makes the access wait, whatever else holds; then SECOND; then LATE. -/
def State.lockStep (s : State) (a : Access) : State :=
  if s.lockedByOther a.slot a.tag then s.wait
  else if s.isSecond a then
    match s.lockBy a.tag with
    | some l =>
      (s.deny a).report
        { s.checkReport a .lock .lockSecond with
          valueA := toWord l.slot.val, valueB := pairWord (s.role a.tag).code 0 }
    | none => s.deny a
  else (s.deny a).report (s.checkReport a .lock .lockLate)

/-- Step 12 (R35, R36): the waits come before the sequence check. -/
def State.orderStep (s : State) (a : Access) : State :=
  if s.punchWaits a || s.readbackWaits a then s.wait
  else
    let d := s.deny a
    { d with
      cc := { d.cc with
        seqFaults := d.cc.seqFaults ++
          [{ slot := a.slot, tag := a.tag, offset := a.offset, pointer := (s.slot a.slot).rbPtr, size := a.size }] } }

/-- The tap of the area a write covers (R38): DECODER writes to INDEX, VERIFIER writes to READBACK. -/
def State.tap (s : State) (a : Access) : State :=
  if s.role a.tag == .decoder && coversArea a.offset a.size .index then s.indexTap a.slot a.tag a.offset a.bytes
  else if s.role a.tag == .verifier && coversArea a.offset a.size .readback then
    s.readbackTap a.slot a.tag a.offset a.bytes
  else s

/-- Step 14, a write (R38): queued, answered ACCEPTED, its tag's lock ended by a close, then handed to its tap. -/
def State.acceptWrite (s : State) (a : Access) : State :=
  ((((s.enqueue a false).answer .accepted []).endLock a.lclose a.slot a.tag).tap a).arbitrate

/-- The lock that an accepted lock-open read creates (R118). -/
def State.openLock (s : State) (a : Access) : State :=
  let timeout := s.su.timing.lockTimeout.toNat
  { s with
    acc := { s.acc with
      locks := s.acc.locks ++
        [{ slot := a.slot, tag := a.tag, offset := a.offset, timeout := timeout, ticks := timeout + 1 }] } }

/-- Step 14, a read (R39): queued, without an answer yet; a lock-open read creates its lock. -/
def State.acceptRead (s : State) (a : Access) : State :=
  let queued := s.enqueue a false
  (if a.lopen then queued.openLock a else queued).arbitrate

/-- The result of the step that decides the access (R22). -/
def State.applyStep (s : State) (a : Access) (deferred : Bool) (step : Nat) : State :=
  match step with
  | 1 => s.deny a
  | 2 => (s.answer .denied (deniedData a)).report (s.checkReport a .stranger .plain)
  | 3 => s.statusRead a
  | 4 => (s.deny a).report (s.checkReport a .absent .plain)
  | 5 => (s.deny a).report (s.checkReport a .limit .plain)
  | 6 => s.stageWrite a deferred
  | 7 => s.wait
  | 8 => s.deny a
  | 9 => (s.deny a).report (s.checkReport a .permission (.area ((s.lacking a).getD .frame)))
  | 10 => s.lockStep a
  | 11 => s.wait
  | 12 => s.orderStep a
  | 13 => s.wait
  | _ => if a.wr then s.acceptWrite a else s.acceptRead a

/-- An access is decided once, at its arrival (R22, R40). Size code 7 is DENIED before all of the steps (R20); the zeros of such a
read fill the data lines (log 11). -/
def State.access (s : State) (a : Access) (deferred : Bool) : State :=
  if a.noSize then s.answer .denied (if a.wr then [] else zeroBytes 64)
  else s.applyStep a deferred (s.decidingStep a)

/-- An access arrives at a new edge: the write that the edge before handed to the Stage Unit has its answer by then, so with one still in hand
no access can arrive (R184, log 4). -/
def State.arrival (s : State) (a : Access) (deferred : Bool) : State :=
  if s.su.handed.isSome then s else s.access a deferred

/-- STAGING_BUS_ACCESS (R22, R184). -/
def execStagingBusAccess (a : Access) (deferred : Bool) (s : State) : Host.Outcome State Fault Refusal :=
  .next (s.whenUp fun s => s.arrival a deferred)

end Sys2Proof.Machine
end

