-- ==== Sys2Proof/Machine/Requests.lean ====
section
/-! DEFINITION. The seven stage requests as commands: OPEN, FRAME_DONE, FREEZE, RETIRE, REOPEN, RESUME, DISCARD (chapter 3). -/

namespace Sys2Proof.Machine

/-- A handed-over write that a request row's event may take: it is from that tag to that slot, and it is the row's request or no
request at all, which the row's event refuses (R44; 95_what_each_step_holds, MALFORMED and UNKNOWN_CODE). -/
def StageWrite.servedBy (w : StageWrite) (n : Slot) (t : Tag) (q : StageRequest) : Bool :=
  w.slot == n && w.tag == t &&
    (!w.isRequestForm || StageRequest.ofCode w.code == some q || (StageRequest.ofCode w.code).isNone)

/-- A request row (R43, log 4). The Stage Unit takes the write handed over to it at this edge, if the row serves it. When none is in hand, the
row is the request's own arrival: the one-byte write is checked (R22) and, past step 6, taken in the same event. -/
def State.requestRow (s : State) (n : Slot) (t : Tag) (lclose : Bool) (q : StageRequest) : State :=
  match s.su.handed with
  | some w => if w.servedBy n t q then { s with su := { s.su with handed := none } }.takeWrite w else s
  | none => s.access (Access.ofRequest n t lclose q.code) false

/-- OPEN (R48). -/
def execOpen (n : Slot) (t : Tag) (lclose : Bool) (s : State) : Host.Outcome State Fault Refusal :=
  .next (s.whenUp fun s => s.requestRow n t lclose .openCard)

/-- FRAME_DONE (R49). -/
def execFrameDone (n : Slot) (t : Tag) (lclose : Bool) (s : State) : Host.Outcome State Fault Refusal :=
  .next (s.whenUp fun s => s.requestRow n t lclose .frameDone)

/-- FREEZE (R50). -/
def execFreeze (n : Slot) (t : Tag) (lclose : Bool) (s : State) : Host.Outcome State Fault Refusal :=
  .next (s.whenUp fun s => s.requestRow n t lclose .freeze)

/-- RETIRE (R51). -/
def execRetire (n : Slot) (t : Tag) (lclose : Bool) (s : State) : Host.Outcome State Fault Refusal :=
  .next (s.whenUp fun s => s.requestRow n t lclose .retire)

/-- REOPEN (R58). -/
def execReopen (n : Slot) (t : Tag) (lclose : Bool) (s : State) : Host.Outcome State Fault Refusal :=
  .next (s.whenUp fun s => s.requestRow n t lclose .reopen)

/-- RESUME (R56). -/
def execResume (n : Slot) (t : Tag) (lclose : Bool) (s : State) : Host.Outcome State Fault Refusal :=
  .next (s.whenUp fun s => s.requestRow n t lclose .resume)

/-- DISCARD (R53). -/
def execDiscard (n : Slot) (t : Tag) (lclose : Bool) (s : State) : Host.Outcome State Fault Refusal :=
  .next (s.whenUp fun s => s.requestRow n t lclose .discard)

end Sys2Proof.Machine
end

