-- ==== Sys2Proof/Machine/SweepEngine.lean ====
section
/-! DEFINITION. The Sweep Engine's rows (R134 to R138). -/

namespace Sys2Proof.Machine

/-- The sweep of a slot may start: no current sweep, the slot is the head, its drain count is zero, and no burst of an abandoned sweep is
in flight (R136). -/
def State.sweepStartable (s : State) : Option Slot :=
  match s.sw.sweep, s.sw.queue with
  | none, n :: _ =>
    if (s.slot n).drainCount == 0 && !(s.mp.op.any MemOp.isSweepBurst) then some n else none
  | _, _ => none

/-- SWEEP_START (R136). -/
def State.startSweep (s : State) : State :=
  match s.sweepStartable with
  | some n => { s with sw := { s.sw with sweep := some { slot := n, done := 0, stopped := false } } }.arbitrate
  | none => s

/-- SWEEP_START. -/
def execSweepStart (s : State) : Host.Outcome State Fault Refusal := .next (s.whenUp State.startSweep)

/-- SWEEP_BURST_GRANT (R128, R129, R135), where the arbiter's next grant is the Sweep Engine's: the next burst, number equal to the bursts done. -/
def State.grantBurst (s : State) : State :=
  match s.sw.sweep with
  | some w =>
    if s.grantee = some .sweepEngine then
      { s with
        mp :=
          { s.mp.perform (.sweepBurst w.slot w.done ((s.slot w.slot).base * Config.granule + 64 * w.done) false) with
            sweepWait := 0 } }
    else s
  | none => s

/-- SWEEP_BURST_GRANT. -/
def execSweepBurstGrant (s : State) : Host.Outcome State Fault Refusal := .next (s.whenUp State.grantBurst)

/-- The last burst is done: off the queue, the sweep ended, the slot VACANT, SWEEP DONE latched (R137). -/
def State.completeSweep (s : State) (n : Slot) : State :=
  ({ s with sw := { queue := s.sw.queue.filter (fun m => m != n), sweep := none } }.vacate n).latch .sweepDone

/-- A burst of the current sweep is done (R136, R137). -/
def State.countBurst (s : State) (w : Sweep) : State :=
  if (s.slot w.slot).limit * 64 ≤ w.done + 1 then s.completeSweep w.slot
  else { s with sw := { s.sw with sweep := some { w with done := w.done + 1 } } }

/-- The burst's zeros land, and `k` follows. -/
def State.burstDone (s : State) : Host.Outcome State Fault Refusal :=
  match s.mp.op, s.sw.sweep with
  | some (.sweepBurst _ _ pa false), some w =>
    ({ s with mp := { s.mp with op := none } }.countBurst w).arbitrate.performWrite pa (zeroBytes 64)
  | some (.sweepBurst _ _ pa false), none =>
    { s with mp := { s.mp with op := none } }.arbitrate.performWrite pa (zeroBytes 64)
  | some (.sweepBurst _ _ pa true), _ =>
    { s with mp := { s.mp with op := none } }.arbitrate.performWrite pa (zeroBytes 64)
  | _, _ => .next s

/-- SWEEP_BURST_DONE (R136 to R138): the answer of an abandoned sweep's burst counts nothing. -/
def execSweepBurstDone (s : State) : Host.Outcome State Fault Refusal := s.whenUpPerform State.burstDone

/-- The MEMORY fault report of a sweep burst (R133). -/
def sweepErrorReport (n : Slot) (number pa : Nat) : Report where
  kind := .memory
  slot := n
  agent := none
  stage := .sweeping
  detail := .memorySweep
  offset := some (64 * number)
  valueA := toWord (pa / Config.granule)
  valueB := toWord number
  readback := none

/-- SWEEP_BURST_ERROR (R133, R138): the current sweep stops and a fault is raised; an abandoned sweep's burst is discarded. The
burst's bytes are as the memory left them. -/
def State.burstError (s : State) : State :=
  match s.mp.op, s.sw.sweep with
  | some (.sweepBurst _ k pa false), some w =>
    (({ s with mp := { s.mp with op := none }, sw := { s.sw with sweep := some { w with stopped := true } } }).spoil
      pa 64).report (sweepErrorReport w.slot k pa) |>.arbitrate
  | some (.sweepBurst _ _ pa false), none => ({ s with mp := { s.mp with op := none } }.spoil pa 64).arbitrate
  | some (.sweepBurst _ _ pa true), _ => ({ s with mp := { s.mp with op := none } }.spoil pa 64).arbitrate
  | _, _ => s

/-- SWEEP_BURST_ERROR. -/
def execSweepBurstError (s : State) : Host.Outcome State Fault Refusal := .next (s.whenUp State.burstError)

end Sys2Proof.Machine
end

