-- ==== Sys2Proof/Machine/Timers.lean ====
section
/-! DEFINITION. The guard and lock timers' rows, and what happens when no command waits: the timebase (R63, R122, R185). -/

namespace Sys2Proof.Machine

/-- The guard timer whose last tick has come stops; the guard ends if the drain flag is clear, else when it clears (R63, R185). -/
def SlotRec.expireGuard (r : SlotRec) : SlotRec := { r with guardTimer := if r.guardTimer = some 0 then none else r.guardTimer }

/-- GUARD_TIMER_EXPIRY (R63). -/
def execGuardTimerExpiry (n : Slot) (s : State) : Host.Outcome State Fault Refusal :=
  .next (s.whenUp fun s => s.modSlot n SlotRec.expireGuard)

/-- The EXPIRED fault report of a lock (R122). -/
def State.expiredReport (s : State) (l : Lock) : Report where
  kind := .lock
  slot := l.slot
  agent := some l.tag
  stage := (s.slot l.slot).stage
  detail := .lockExpired
  offset := some l.offset
  valueA := toWord l.timeout
  valueB := pairWord (s.role l.tag).code 0
  readback := none

/-- A lock's timer expires: the lock is removed and an EXPIRED fault raised in the same event (R122). -/
def State.expireLock (s : State) (l : Lock) : State := (s.dropLocksOn l.slot).report (s.expiredReport l)

/-- LOCK_TIMER_EXPIRY of the lock on a slot, once its last tick has come (R122, R185). -/
def State.expireLockOn (s : State) (n : Slot) : State :=
  match s.lockOn n with
  | some l => if l.ticks = 0 then s.expireLock l else s
  | none => s

/-- LOCK_TIMER_EXPIRY. -/
def execLockTimerExpiry (n : Slot) (s : State) : Host.Outcome State Fault Refusal :=
  .next (s.whenUp fun s => s.expireLockOn n)

/-! The timebase. -/

/-- A running timer counts one tick (R185). -/
def tickTimer (t : Option Nat) : Option Nat := t.map fun k => k - 1

/-- A slot's timers count one tick. -/
def SlotRec.tick (r : SlotRec) : SlotRec :=
  { r with guardTimer := tickTimer r.guardTimer, retryTimer := tickTimer r.retryTimer }

/-- One tick of the 1 µs timebase (R185). -/
def State.countTick (s : State) : State :=
  { s with
    slots := mapVector SlotRec.tick s.slots
    acc := { s.acc with locks := s.acc.locks.map fun l => { l with ticks := l.ticks - 1 } } }

/-- The last tick of one of the slot's timers has come. -/
def SlotRec.expiryDue (r : SlotRec) : Bool := r.guardTimer == some 0 || r.retryTimer == some 0

/-- The last tick of some timer has come, and its expiry has not been taken. -/
def State.expiryDue (s : State) : Bool :=
  s.acc.locks.any (fun l => l.ticks == 0) || s.slots.toList.any SlotRec.expiryDue

/-- Every expiry that is due is taken; the locks, oldest first (log 3). -/
def State.expireAll (s : State) : State :=
  (s.acc.locks.filter fun l => l.ticks == 0).foldl State.expireLock
    { s with slots := mapVector (fun r => r.expireGuard.expireRetry) s.slots }

/-- What `step` does on an empty queue (log 3): a write that awaits the Stage Unit is taken, since its answer belongs to this edge (R184); else the
expiries of the latest tick are taken; else one tick of the timebase passes (R185). -/
def State.idle (s : State) : State :=
  s.whenUp fun s =>
    match s.su.handed with
    | some w => { s with su := { s.su with handed := none } }.takeWrite w
    | none => if s.expiryDue then s.expireAll else s.countTick

end Sys2Proof.Machine
end

