-- ==== Sys2Proof/Machine/Dispatch.lean ====
section
/-! DEFINITION. The dispatch: one arm per command, one meaning per arm. -/

namespace Sys2Proof.Machine

def exec (i : Instr) (s : State) : Host.Outcome State Fault Refusal :=
  match i with
  | .stagingBusAccess a deferred => Sys2Proof.Machine.execStagingBusAccess a deferred s
  | .openCard n t c => Sys2Proof.Machine.execOpen n t c s
  | .frameDone n t c => Sys2Proof.Machine.execFrameDone n t c s
  | .freeze n t c => Sys2Proof.Machine.execFreeze n t c s
  | .retire n t c => Sys2Proof.Machine.execRetire n t c s
  | .reopen n t c => Sys2Proof.Machine.execReopen n t c s
  | .resume n t c => Sys2Proof.Machine.execResume n t c s
  | .discard n t c => Sys2Proof.Machine.execDiscard n t c s
  | .queueHeadGrant => Sys2Proof.Machine.execQueueHeadGrant s
  | .queuedReadDone => Sys2Proof.Machine.execQueuedReadDone s
  | .queuedReadError => Sys2Proof.Machine.execQueuedReadError s
  | .queuedWriteDone => Sys2Proof.Machine.execQueuedWriteDone s
  | .queuedWriteError => Sys2Proof.Machine.execQueuedWriteError s
  | .freezeReadGrant => Sys2Proof.Machine.execFreezeReadGrant s
  | .freezeReadReturn => Sys2Proof.Machine.execFreezeReadReturn s
  | .freezeReadError => Sys2Proof.Machine.execFreezeReadError s
  | .sweepStart => Sys2Proof.Machine.execSweepStart s
  | .sweepBurstGrant => Sys2Proof.Machine.execSweepBurstGrant s
  | .sweepBurstDone => Sys2Proof.Machine.execSweepBurstDone s
  | .sweepBurstError => Sys2Proof.Machine.execSweepBurstError s
  | .guardTimerExpiry n => Sys2Proof.Machine.execGuardTimerExpiry n s
  | .lockTimerExpiry n => Sys2Proof.Machine.execLockTimerExpiry n s
  | .retryTimerExpiry n => Sys2Proof.Machine.execRetryTimerExpiry n s
  | .readbackSequenceTaken => Sys2Proof.Machine.execReadbackSequenceTaken s
  | .faultReportTaken => Sys2Proof.Machine.execFaultReportTaken s
  | .itemByte b => Sys2Proof.Machine.execItemByte b s
  | .portalControl w => Sys2Proof.Machine.execPortalControl w s
  | .portalAddressWrite w => Sys2Proof.Machine.execPortalAddressWrite w s
  | .descriptorWrite w => Sys2Proof.Machine.execDescriptorWrite w s
  | .load w => Sys2Proof.Machine.execLoad w s
  | .agentRoleWrite w => Sys2Proof.Machine.execAgentRoleWrite w s
  | .faultResponseWrite w => Sys2Proof.Machine.execFaultResponseWrite w s
  | .timingWrite w => Sys2Proof.Machine.execTimingWrite w s
  | .custodyLogRead p => Sys2Proof.Machine.execCustodyLogRead p s
  | .verifiedQueueRead p => Sys2Proof.Machine.execVerifiedQueueRead p s
  | .readOnly w => Sys2Proof.Machine.execReadOnly w s
  | .alertCause p => Sys2Proof.Machine.execAlertCause p s
  | .alertEnable w => Sys2Proof.Machine.execAlertEnable w s
  | .block w => Sys2Proof.Machine.execBlock w s
  | .unblock w => Sys2Proof.Machine.execUnblock w s
  | .custodyReset w => Sys2Proof.Machine.execCustodyReset w s
  | .clearLog w => Sys2Proof.Machine.execClearLog w s
  | .resetNAssertion => Sys2Proof.Machine.execResetNAssertion s
  | .resetNRelease adr msize => Sys2Proof.Machine.execResetNRelease adr msize s
  | .portalDataRead p => Sys2Proof.Machine.execPortalDataRead p s
  | .targetAddressByte address x => Sys2Proof.Machine.execTargetAddressByte address x s
  | .transactionEnd => Sys2Proof.Machine.execTransactionEnd s

end Sys2Proof.Machine
end

