-- ==== Sys2Proof/Safety.lean ====
section
/-! DEFINITION. The laws that the manual gives the bridge's state, as predicates that every step keeps, and the words that statements about
single commands use. -/

namespace Sys2Proof.Machine

/-- Staging memory is in its canonical form (log 7). -/
abbrev State.memoryLaw (s : State) : Prop := Memory.wf s.mem

/-- The memory queue holds at most 16 accesses (R125), the sweep wait count is at most 16 (R129), and no slot's drain count exceeds the
number of its accesses in the queue (R127). -/
abbrev State.queueLaw (s : State) : Prop :=
  s.mp.queue.length ≤ 16 ∧ s.mp.sweepWait ≤ 16 ∧ ∀ n : Slot, (s.slot n).drainCount ≤ s.queuedOf n

/-- The custody log holds at most 32 records whose sequence numbers follow one another modulo 65536 up to the next one (R156, R157), and the
overflow flag is clear while it is empty (R158). -/
abbrev State.logLaw (s : State) : Prop :=
  s.fu.log.length ≤ 32 ∧
    s.fu.log.map LogRecord.seq =
      (List.range s.fu.log.length).map (fun k => s.fu.nextSeq - toWord (s.fu.log.length - k)) ∧
    (s.fu.log = [] → s.fu.overflow = false)

/-- No slot carries more than one lock and no agent holds more than one; a locked slot has no active guard (R117) and is in none of
VACANT, FREEZING and SWEEPING (R120). -/
abbrev State.lockLaw (s : State) : Prop :=
  (s.acc.locks.map Lock.slot).Nodup ∧ (s.acc.locks.map Lock.tag).Nodup ∧
    ∀ l ∈ s.acc.locks, (s.slot l.slot).guardActive = false ∧ (s.slot l.slot).stage.hasRights = true

/-- A slot in HELD has a held-from stage that is neither VACANT, LOADED nor HELD, and no other slot has one (R11). -/
abbrev State.heldLaw (s : State) : Prop :=
  ∀ n : Slot,
    ((s.slot n).stage = .held → (s.slot n).heldFrom.any Stage.holdable = true) ∧
      ((s.slot n).stage ≠ .held → (s.slot n).heldFrom = none)

/-- The ranges of the card check state (R96) and of the timing table (R66). -/
abbrev State.rangeLaw (s : State) : Prop :=
  (∀ n : Slot, 0x170 ≤ (s.slot n).rbPtr ∧ (s.slot n).rbPtr ≤ 0x210 ∧ (s.slot n).retryCount ≤ 8) ∧
    s.su.timing.guardInterval.toNat ≤ 15 ∧
    (1 ≤ s.su.timing.lockTimeout.toNat ∧ s.su.timing.lockTimeout.toNat ≤ 255) ∧
    s.su.timing.retryDelay.toNat ≤ 255 ∧ s.su.timing.retryLimit.toNat ≤ 7

/-- A slot in VERIFIED, or held from it, has punch-complete and print-complete set (R109), and a retry timer runs in FROZEN alone
(R114). -/
abbrev State.verifiedLaw (s : State) : Prop :=
  ∀ n : Slot,
    ((s.slot n).stage = .verified ∨ (s.slot n).heldFrom = some .verified →
      (s.slot n).punch = true ∧ (s.slot n).print = true) ∧
    ((s.slot n).retryTimer.isSome = true → (s.slot n).stage = .frozen)

/-- The three lists of slots: the verified queue names slots in VERIFIED (R59), the freeze order list slots in FREEZING (R97), the sweep queue
exactly the slots in SWEEPING (R134), each at most once; a freeze or sweep under way is of its list's head (R98, R136). -/
abbrev State.listLaw (s : State) : Prop :=
  (s.su.verified.Nodup ∧ ∀ n ∈ s.su.verified, (s.slot n).stage = .verified) ∧
    (s.cc.freezeList.Nodup ∧ ∀ n ∈ s.cc.freezeList, (s.slot n).stage = .freezing) ∧
    (s.sw.queue.Nodup ∧ ∀ n : Slot, n ∈ s.sw.queue ↔ (s.slot n).stage = .sweeping) ∧
    (∀ f ∈ s.cc.freeze, s.cc.freezeList.head? = some f.slot) ∧
    (∀ w ∈ s.sw.sweep, s.sw.queue.head? = some w.slot)

/-- A slot may carry a link (R83, R85): SCANNING through HELD, and not HELD with SWEEPING as its held-from stage. -/
abbrev SlotRec.linkable (r : SlotRec) : Prop := r.inService = true

/-- Slot A's live successor link names slot B exactly when B's live predecessor link names A, and every slot with a live link is in a stage
from SCANNING through HELD (R83). -/
abbrev State.linkLaw (s : State) : Prop :=
  (∀ m n : Slot, (s.slot m).succ = some n ↔ (s.slot n).pred = some m) ∧
    ∀ n : Slot, (s.slot n).pred.isSome = true ∨ (s.slot n).succ.isSome = true → (s.slot n).linkable

/-- The stages in which a slot holds an established key (R79). -/
def Stage.keyed : Stage → Bool
  | .composing | .freezing | .frozen | .verified => true
  | .vacant | .loaded | .scanning | .decoding | .held | .sweeping => false

/-- The key directory (R79): one entry for each slot whose key established flag is set, and no other; the entry holds the slot's expected key; no
two entries hold the same key; a slot holds a key only in COMPOSING through VERIFIED, or in HELD from one of these. -/
abbrev State.keyLaw (s : State) : Prop :=
  (s.directory.map KeyEntry.slot).Nodup ∧ (s.directory.map KeyEntry.key).Nodup ∧
    (∀ e ∈ s.directory, e.key = (s.slot e.slot).key) ∧
    ∀ n : Slot,
      (n ∈ s.directory.map KeyEntry.slot ↔ (s.slot n).keyEst = true) ∧
        ((s.slot n).keyEst = true →
          (s.slot n).stage.keyed = true ∨ (s.slot n).stage = .held ∧ (s.slot n).heldFrom.any Stage.keyed = true)

/-- A slot outside VACANT has a descriptor in range whose region lies in memory (R4, R5), and no two slots outside VACANT have regions that share
any granule (R7). -/
abbrev State.regionLaw (s : State) : Prop :=
  ∀ n : Slot, (s.slot n).stage ≠ .vacant →
    (s.slot n).fieldsInRange n = true ∧ s.pastMemory n = false ∧ s.overlaps n = false

/-- While RESET_N is low every slot is VACANT, nothing is queued and nothing is in flight (R139, R185). -/
abbrev State.resetLaw (s : State) : Prop :=
  s.pins.resetLow = true → (∀ n : Slot, (s.slot n).stage = .vacant) ∧ s.mp.queue = [] ∧ s.mp.op = none

/-- The bytes an operation of the memory touches lie within the fitted memory (R5, R6, R135), and an operation in flight is one of the current
freeze, of the current sweep, of an abandoned one, or the queue's head. -/
abbrev State.operationLaw (s : State) : Prop :=
  (∀ e ∈ s.mp.queue, s.inMemory e.pa e.size = true ∧ (e.wr = true → e.data.length = e.size)) ∧
    match s.mp.op with
    | some (.freezeRead _ k pa _) => s.inMemory pa (freezeReadSize k) = true
    | some (.sweepBurst _ _ pa _) => s.inMemory pa 64 = true
    | some .queueHead => s.mp.queue ≠ []
    | none => True

/-- All the laws together. -/
structure State.Lawful (s : State) : Prop where
  memory : s.memoryLaw
  queue : s.queueLaw
  log : s.logLaw
  lock : s.lockLaw
  held : s.heldLaw
  range : s.rangeLaw
  verified : s.verifiedLaw
  list : s.listLaw
  link : s.linkLaw
  key : s.keyLaw
  region : s.regionLaw
  reset : s.resetLaw
  operation : s.operationLaw

/-! The words of statements about single commands. -/

/-- An edge that answers the access of this edge alone (R184). -/
def BusOut.respond (r : BusResponse) (data : List Byte) : BusOut where
  resp := r
  data := data
  qResp := .none
  qTag := 0
  qData := []

/-- An edge that answers a queued read alone (R184). -/
def BusOut.respondQueued (r : BusResponse) (t : Tag) (data : List Byte) : BusOut where
  resp := .none
  data := []
  qResp := r
  qTag := t
  qData := data

/-- The condition of each step of R22, in the words of rules R23 to R37. -/
def State.condition (s : State) (a : Access) (step : Nat) : Prop :=
  let r := s.slot a.slot
  let role := s.role a.tag
  match step with
  | 1 => s.fu.bridge = .blocked ∧ ¬(role = .controller ∧ a.wr = false)
  | 2 => role = .unassigned
  | 3 => a.wr = false ∧ a.offset < 0x10
  | 4 => r.stage = .vacant
  | 5 => r.limit * 4096 ≤ a.offset
  | 6 => a.wr = true ∧ a.offset < 0x10
  | 7 => r.stage = .freezing ∨ r.stage = .sweeping
  | 8 => r.stage = .held ∧ role ≠ .controller
  | 9 => ∃ k < a.size, hasRight role r.stage a.wr (areaOf (a.offset + k)) = false
  | 10 =>
    (∃ l ∈ s.acc.locks, l.slot = a.slot ∧ l.tag ≠ a.tag) ∨
      (a.wr = false ∧ a.lopen = true ∧ ∃ l ∈ s.acc.locks, l.tag = a.tag) ∨
      (a.wr = true ∧ a.lclose = true ∧ ∀ l ∈ s.acc.locks, l.slot ≠ a.slot)
  | 11 => r.guardTimer ≠ none ∨ 0 < r.drainCount
  | 12 =>
    (role = .punch ∧ a.wr = false ∧ (∃ k < a.size, areaOf (a.offset + k) = .card) ∧
        ∃ p, r.pred = some p ∧ (s.slot p).punch = false) ∨
      (role = .verifier ∧ a.wr = true ∧ (∃ k < a.size, areaOf (a.offset + k) = .readback) ∧
        (r.punch = false ∨ r.print = false ∨ r.retryTimer ≠ none ∨ a.offset ≠ r.rbPtr))
  | 13 => 16 ≤ s.mp.queue.length
  | _ => True

/-- The entry an access takes in the memory queue (R125). -/
def State.entryFor (s : State) (a : Access) (overlay : Bool) : QEntry where
  wr := a.wr
  size := a.size
  slot := a.slot
  offset := a.offset
  pa := (s.slot a.slot).base * 4096 + a.offset
  tag := a.tag
  role := s.role a.tag
  data := if a.wr then (List.range a.size).map fun k => laneByte a.data ((a.offset + k) % 64) else []
  overlay := overlay

/-- The memory queue with one more entry at its tail. -/
def MemoryPort.push (m : MemoryPort) (e : QEntry) : MemoryPort := { m with queue := m.queue ++ [e] }

/-- The lock table after a decided access: a lock-close write ends its own tag's lock on its slot (R120). -/
def State.locksAfter (s : State) (close : Bool) (n : Slot) (t : Tag) : AccessChecker :=
  { s.acc with
    locks := if close then s.acc.locks.filter fun l => !(l.slot == n && l.tag == t) else s.acc.locks }

/-- The lock table without the locks on a slot (R123). -/
def State.locksOff (s : State) (n : Slot) : AccessChecker :=
  { s.acc with locks := s.acc.locks.filter fun l => l.slot != n }

/-- The Fault Unit with one more report in hand (R140). -/
def FaultUnit.push (fu : FaultUnit) (r : Report) : FaultUnit := { fu with reports := fu.reports ++ [r] }

end Sys2Proof.Machine

namespace Sys2Proof

/-- Some byte of the access lies in the area. -/
def Access.touches (a : Access) (area : Machine.Area) : Prop := ∃ k < a.size, Machine.areaOf (a.offset + k) = area

/-- The byte a write carries at a window offset it covers. -/
def Access.byteAt (a : Access) (x : Nat) : Byte := laneByte a.data (x % 64)

/-- The write covers the closing field whole and carries a code with the mark 7Eh 7Eh 7Eh (R72). -/
def Access.closes (a : Access) (code : Byte) : Prop :=
  a.offset ≤ 0x7C ∧ 0x80 ≤ a.offset + a.size ∧ a.byteAt 0x7C = code ∧ a.byteAt 0x7D = 0x7E#8 ∧
    a.byteAt 0x7E = 0x7E#8 ∧ a.byteAt 0x7F = 0x7E#8

/-- The key-byte states after a write, by R70: key byte `k` stands at window offset 040h + k. -/
def Access.follows (a : Access) (r : Machine.SlotRec) (keys : Vector Machine.KeyState 22) : Prop :=
  ∀ k : Fin 22,
    keys[k.val] =
      if a.offset ≤ 0x40 + k.val ∧ 0x40 + k.val < a.offset + a.size then
        if a.byteAt (0x40 + k.val) = r.key.getD k.val 0#8 then .matched else .mismatched
      else r.keys[k.val]

end Sys2Proof

namespace Sys2Proof.Machine

/-- The command of a stage request. -/
def StageRequest.command (q : StageRequest) (n : Slot) (t : Tag) (lclose : Bool) : Instr :=
  match q with
  | .openCard => .openCard n t lclose
  | .frameDone => .frameDone n t lclose
  | .freeze => .freeze n t lclose
  | .retire => .retire n t lclose
  | .reopen => .reopen n t lclose
  | .resume => .resume n t lclose
  | .discard => .discard n t lclose

/-- RESET_N is high and no write handed over at an earlier edge waits for the Stage Unit: an access may arrive (R184, log 4). -/
def State.busFree (s : State) : Prop := s.pins.resetLow = false ∧ s.su.handed = none

/-- The write `w` that a request row's event takes, and the state `s₀` the Stage Unit takes it in (R28, log 4). Either no write waits for the Stage
Unit, and the request arrives now, past steps 1 to 6 of R22; or `w` is the write handed over at this edge, the row serves it, and it leaves the
Stage Unit's hands. -/
def State.eventTakes (s : State) (n : Slot) (t : Tag) (lclose : Bool) (q : StageRequest) (w : StageWrite) (s₀ : State) : Prop :=
  s.pins.resetLow = false ∧
    (s.su.handed = none ∧ s.fu.bridge = .guarding ∧ s.role t ≠ .unassigned ∧
        (s.slot n).stage ≠ .vacant ∧ (s.slot n).limit ≠ 0 ∧ s.lockedByOther n t = false ∧
        w = { slot := n, tag := t, role := s.role t, offset := 0, size := 1, code := q.code, lclose := lclose } ∧
        s₀ = { s with out := BusOut.quiet } ∨
      s.su.handed = some w ∧ w.servedBy n t q = true ∧
        s₀ = { s with su := { s.su with handed := none }, out := BusOut.quiet })

/-- The write is the request, from a tag that had the role the request table gives (R43). -/
def StageWrite.asks (w : StageWrite) (q : StageRequest) : Prop :=
  w.size = 1 ∧ w.offset = 0 ∧ w.code = q.code ∧ w.role = q.role

/-- It is a requester's turn at the memory (R128, R129): the memory is free, the requester asks, and it is the one settled on, or the one settled on (if
any) asks no longer and the requester comes first by the table among those that ask. -/
def State.turnOf (s : State) (r : Requester) : Prop :=
  s.mp.op = none ∧ s.asks r = true ∧
    (s.mp.due = some r ∨
      (∀ x, s.mp.due = some x → s.asks x = false) ∧
        match r with
        | .freezeReader => True
        | .memoryQueue => s.asks .freezeReader = false ∧ ¬(s.asks .sweepEngine = true ∧ 16 ≤ s.mp.sweepWait)
        | .sweepEngine => s.asks .freezeReader = false ∧ (s.asks .memoryQueue = false ∨ 16 ≤ s.mp.sweepWait))

/-- The Sweep Engine asks at the moment of the next grant (R128, R129): it asked when the arbiter settled on the requester that still asks, or, with
none settled on that still asks, it asks now. -/
def State.asksBeside (s : State) : Prop :=
  (∃ r, s.mp.due = some r ∧ s.asks r = true ∧ s.mp.besideSweep = true) ∨
    (∀ r, s.mp.due = some r → s.asks r = false) ∧ s.asks .sweepEngine = true

/-- The freeze under way once a list, a current freeze and the memory stand so (R98): with none under way and no freeze read in flight, the head
of the list with 0 reads returned and the accumulator at FFFFh. -/
def nextFreeze (list : List Slot) (current : Option Freeze) (op : Option MemOp) : Option Freeze :=
  match current with
  | some f => some f
  | none =>
    if op.any MemOp.isFreezeRead then none
    else list.head?.map fun n => { slot := n, returned := 0, acc := 0xFFFF#16 }

/-- The Card Check Unit once a slot has left the freeze order list (R97, R101); `op` is the operation in flight. -/
def CardCheck.without (c : CardCheck) (n : Slot) (op : Option MemOp) : CardCheck :=
  let list := c.freezeList.filter fun m => m != n
  { c with
    freezeList := list
    freeze := nextFreeze list (if c.freeze.any fun f => f.slot == n then none else c.freeze) op }

/-- The Memory Port once a slot's freeze is abandoned: its read in flight is performed for nothing (R101). -/
def MemoryPort.withoutFreeze (m : MemoryPort) (c : CardCheck) (n : Slot) : MemoryPort :=
  { m with op := if c.freeze.any fun f => f.slot == n then m.op.map MemOp.abandonFreeze else m.op }

/-- The Memory Port once a slot's sweep is abandoned: its burst in flight is performed for nothing (R138). -/
def MemoryPort.withoutSweep (m : MemoryPort) (e : SweepEngine) (n : Slot) : MemoryPort :=
  { m with op := if e.sweep.any fun w => w.slot == n then m.op.map MemOp.abandonSweep else m.op }

/-- The Sweep Engine once a slot has left the sweep queue (R134, R138). -/
def SweepEngine.without (e : SweepEngine) (n : Slot) : SweepEngine :=
  { queue := e.queue.filter fun m => m != n
    sweep := if e.sweep.any fun w => w.slot == n then none else e.sweep }

/-- The slot record that a stage change to a guarded stage leaves (R47, R61). -/
def State.handedTo (s : State) (n : Slot) (st : Stage) : SlotRec :=
  { s.slot n with
    stage := st
    heldFrom := none
    guardTimer :=
      if s.su.timing.guardInterval = 0#16 then none else some (s.su.timing.guardInterval.toNat + 1)
    drainCount := s.queuedOf n }

/-- The slot record on entry to SWEEPING, without key and links (R47, R51, R53). -/
def State.leaving (s : State) (n : Slot) : SlotRec :=
  { s.slot n with
    stage := .sweeping
    heldFrom := none
    guardTimer := none
    drainCount := s.queuedOf n
    keyEst := false
    pred := none
    succ := none }

/-- The slot record on entry to VACANT (R17, R47, R96). -/
def SlotRec.emptied (r : SlotRec) : SlotRec :=
  { r with
    stage := .vacant
    heldFrom := none
    guardTimer := none
    drainCount := 0
    pred := none
    succ := none
    keyEst := false
    punch := false
    print := false
    frozenCrc := 0#16
    rbPtr := 0x170
    runCrc := 0xFFFF#16
    retryCount := 0
    retryTimer := none }

/-- A neighbour of a slot that leaves its chain: its half of each pair is cleared (R89, R90). -/
def State.cutFrom (s : State) (n m : Slot) : SlotRec :=
  { s.slot m with
    succ := if (s.slot n).pred = some m then none else (s.slot m).succ
    pred := if (s.slot n).succ = some m then none else (s.slot m).pred }

/-- What latching causes leaves of a value that is being sent: an ALERT CAUSE byte of one of them no longer unlatches it (R164). -/
def Sending.afterLatching (x : Sending) (causes : List Cause) : Sending :=
  match x with
  | .causeByte (some c) again => .causeByte (some c) (again || causes.contains c)
  | .causeByte none again => .causeByte none again
  | .portalWord => .portalWord
  | .logWord f => .logWord f
  | .verifiedWord h gone => .verifiedWord h gone

/-- The latches after causes have been latched (R161). -/
def FaultUnit.latchesWith (fu : FaultUnit) (causes : List Cause) (latches : Vector Bool 7) : Prop :=
  ∀ c : Cause, latches[c.place.val] = (fu.latches[c.place.val] || causes.contains c)

/-- The custody log record of a report (R156). -/
def FaultUnit.recordFor (fu : FaultUnit) (r : Report) (applied : Applied) (detail : FaultDetail) (valueB : Word) :
    LogRecord where
  seq := fu.nextSeq
  kind := r.kind
  applied := applied
  slot := r.slot
  agent := r.agent
  stage := r.stage
  detail := detail
  offset := r.offset
  valueA := r.valueA
  valueB := valueB

/-- The Fault Unit after a report has been taken with the record `x` (R141, R153, R157, R158). -/
def FaultUnit.taken (fu : FaultUnit) (rest : List Report) (x : LogRecord) (blocks : Bool) (latches : Vector Bool 7) :
    FaultUnit :=
  { fu with
    reports := rest
    log := if fu.log.length < 32 then fu.log ++ [x] else fu.log
    nextSeq := if fu.log.length < 32 then fu.nextSeq + 1#16 else fu.nextSeq
    overflow := if fu.log.length < 32 then fu.overflow else true
    bridge := if blocks then .blocked else fu.bridge
    latches := latches }

/-- The last fault fields of a slot once a report that names it has been taken (R2, R158). -/
def FaultUnit.lastFaultAfter (fu : FaultUnit) (r : Report) (old : Option (FaultKind × Word)) : Option (FaultKind × Word) :=
  if fu.log.length < 32 then some (r.kind, fu.nextSeq) else old

/-- The causes a report latches beside those of its response: MEMORY ERROR and LOG OVERFLOW (R151). -/
def FaultUnit.besides (fu : FaultUnit) (r : Report) : List Cause :=
  (if r.kind = .memory then [.memoryError] else []) ++ if fu.log.length < 32 then [] else [.logOverflow]

/-- The sizes of the eight portal tables (R174). -/
def portalSize (t : Fin 8) : Nat := [1024, 512, 8, 12, 4, 8, 1, 65].getD t.val 0

/-- The portal after a word that steps in the given modes: status, and the address raised by one, from the last one to 0 (R174, R175). -/
def Management.stepped (m : Management) (st : PortalStatus) (modes : List PortalMode) : Management :=
  { m with
    status := st
    addr := if modes.contains m.mode then (if m.addr + 1 = portalSize m.table then 0 else m.addr + 1) else m.addr }

/-- The portal after a taken write (R174). -/
def Management.wrote (m : Management) : Management := m.stepped .ok [.dataStep, .dataStepWrite]

/-- The portal after a read that returned a value (R174). -/
def Management.didRead (m : Management) (st : PortalStatus) : Management := m.stepped st [.dataStep]

/-- A character 20h–7Eh (R4). -/
def isPrintable (b : Byte) : Prop := 0x20 ≤ b.toNat ∧ b.toNat ≤ 0x7E

/-- Every field of slot `n`'s descriptor lies in the range that R4 gives, the region's place in memory apart. -/
def SlotRec.describes (r : SlotRec) (n : Slot) : Prop :=
  r.desc[0].toNat ≤ 4095 ∧ (2 ≤ r.desc[1].toNat ∧ r.desc[1].toNat ≤ 64) ∧
    (r.desc[2] = 0xFFFF#16 ∨ r.desc[2].toNat ≤ 63 ∧ r.desc[2].toNat ≠ n.val) ∧
    (∀ k : Fin 14, 3 ≤ k.val ∧ k.val ≤ 10 ∨ k.val = 13 →
      isPrintable (hiByte r.desc[k.val]) ∧ isPrintable (loByte r.desc[k.val])) ∧
    (1 ≤ r.desc[11].toNat ∧ r.desc[11].toNat ≤ 999) ∧
    (1 ≤ (hiByte r.desc[12]).toNat ∧ (hiByte r.desc[12]).toNat ≤ 15) ∧
    (1 ≤ (loByte r.desc[12]).toNat ∧ (loByte r.desc[12]).toNat ≤ 15) ∧
    (hiByte r.desc[12]).toNat ≤ (loByte r.desc[12]).toNat

/-- The region of slot `n` ends within memory and shares no granule with that of another slot that is not VACANT (R5, R7). -/
def State.regionFree (s : State) (n : Slot) : Prop :=
  (s.slot n).base + (s.slot n).limit ≤ [512, 1024, 2048, 4096].getD s.pins.msize.toNat 0 ∧
    ∀ m : Slot, m ≠ n → (s.slot m).stage ≠ .vacant →
      ∀ g : Nat, ¬((s.slot n).base ≤ g ∧ g < (s.slot n).base + (s.slot n).limit ∧
        (s.slot m).base ≤ g ∧ g < (s.slot m).base + (s.slot m).limit)

end Sys2Proof.Machine
end

