-- ==== Sys2Proof/Certificates/Slice0/Obligations.lean ====
section
/-! DEFINITION. The statements about the bridge, for the provers. -/

open Sys2Proof Sys2Proof.Machine

/-! Steps, time and reset. -/

/-- A step runs the command at the front of the queue on the queue's rest (log 23). -/
def Obligations.StepRunsFrontCommand : Prop :=
  ∀ (c : Instr) (rest : List Instr) (s : State), step { s with pending := c :: rest } = exec c { s with pending := rest }

/-- What a step does on an empty queue is the model's choice (log 3). A write in the Stage Unit's hand is taken, as by the command that serves it: its
answer belongs to this edge (R28, R184, log 4). Else, once the last tick of some timer has come, every expiry that is due is taken: guard and retry
timers stop, and each lock at its last tick is removed and its LOCK EXPIRED report handed over, the oldest lock first (R63, R114, R122). Else one tick
passes: each running timer counts down by one and nothing else changes (R185). While RESET_N is low none of this happens. The expiry of a timer started
with `n` µs is due at the (n + 1)-th tick and not before; a value of 0 starts none (R61, R114, R185). -/
def Obligations.TicksOfTheTimebase : Prop :=
  (∀ s : State, s.pending = [] → s.pins.resetLow = true → step s = .next { s with out := BusOut.quiet }) ∧
    (∀ (s : State) (w : StageWrite) (q : StageRequest) (c : Bool), s.pending = [] → s.pins.resetLow = false →
      s.su.handed = some w → w.servedBy w.slot w.tag q = true → step s = exec (q.command w.slot w.tag c) s) ∧
    (∀ s : State, s.pending = [] → s.busFree → (s.acc.locks.map Lock.slot).Nodup →
      ((∃ l ∈ s.acc.locks, l.ticks = 0) ∨
        ∃ n : Slot, (s.slot n).guardTimer = some 0 ∨ (s.slot n).retryTimer = some 0) →
      ∃ slots,
        (∀ n : Slot, slots[n.val] =
          { s.slot n with
            guardTimer := if (s.slot n).guardTimer = some 0 then none else (s.slot n).guardTimer
            retryTimer := if (s.slot n).retryTimer = some 0 then none else (s.slot n).retryTimer }) ∧
        step s = .next
          { s with
            slots := slots
            acc := { s.acc with locks := s.acc.locks.filter fun l => l.ticks != 0 }
            fu :=
              { s.fu with
                reports := s.fu.reports ++ (s.acc.locks.filter fun l => l.ticks == 0).map fun l =>
                  { kind := .lock, slot := l.slot, agent := some l.tag, stage := (s.slot l.slot).stage
                    detail := .lockExpired, offset := some l.offset, valueA := BitVec.ofNat 16 l.timeout
                    valueB := BitVec.ofNat 16 ((s.role l.tag).code * 256), readback := none } }
            out := BusOut.quiet }) ∧
    (∀ s : State, s.pending = [] → s.busFree → (∀ l ∈ s.acc.locks, l.ticks ≠ 0) →
      (∀ n : Slot, (s.slot n).guardTimer ≠ some 0 ∧ (s.slot n).retryTimer ≠ some 0) →
      ∃ slots,
        (∀ n : Slot, slots[n.val] =
          { s.slot n with
            guardTimer := (s.slot n).guardTimer.map fun k => k - 1
            retryTimer := (s.slot n).retryTimer.map fun k => k - 1 }) ∧
        step s = .next
          { s with
            slots := slots
            acc := { s.acc with locks := s.acc.locks.map fun l => { l with ticks := l.ticks - 1 } }
            out := BusOut.quiet }) ∧
    (timerOf 0 = none ∧
      ∀ n : Nat, 0 < n → ∀ k ≤ n + 1, tickTimer^[k] (timerOf n) = some (n + 1 - k))

/-- The values after RESET_N: every slot (R17, R69, R96), the role table (R18), the timing table (R66), the response table (R142), the log,
sequence number, bridge state, latches and enables (R160, R161, R163), the management line (R168, R172), and empty queues, lists and tables
(R59, R79, R97, R117, R139). That no write is in the Stage Unit's hand and that the arbiter has settled on no requester (`su.handed`, `mp.due`,
`mp.besideSweep`) are the model's choice: the spec gives no value there (log 9). -/
def Obligations.ResetValues : Prop :=
  (∀ n : Slot,
      (State.reset.slot n).stage = .vacant ∧ (State.reset.slot n).heldFrom = none ∧
      (State.reset.slot n).pred = none ∧ (State.reset.slot n).succ = none ∧
      (∀ k : Fin 14, (State.reset.slot n).desc[k.val] = if k = 2 then 0xFFFF#16 else 0#16) ∧
      (State.reset.slot n).keyEst = false ∧ (State.reset.slot n).punch = false ∧ (State.reset.slot n).print = false ∧
      (State.reset.slot n).guardTimer = none ∧ (State.reset.slot n).retryTimer = none ∧
      (State.reset.slot n).lastFault = none ∧ (∀ k : Fin 22, (State.reset.slot n).keys[k.val] = .unwritten) ∧
      (State.reset.slot n).closingSeen = false ∧ (State.reset.slot n).frozenCrc = 0#16 ∧
      (State.reset.slot n).rbPtr = 0x170 ∧ (State.reset.slot n).runCrc = 0xFFFF#16 ∧
      (State.reset.slot n).retryCount = 0 ∧ (State.reset.slot n).drainCount = 0) ∧
    (∀ t : Tag, State.reset.role t = if t = 0 then .controller else .unassigned) ∧
    State.reset.su.timing = { guardInterval := 2#16, lockTimeout := 50#16, retryDelay := 40#16, retryLimit := 2#16 } ∧
    (∀ k : FaultKind, State.reset.programmed k =
      match k with
      | .stranger | .absent | .request | .lock => .report
      | .readback => .retry
      | .limit | .permission | .index | .void | .duplicate | .chain | .memory => .hold) ∧
    State.reset.fu.log = [] ∧ State.reset.fu.nextSeq = 0#16 ∧ State.reset.fu.overflow = false ∧
    State.reset.fu.bridge = .guarding ∧ State.reset.fu.reports = [] ∧
    (∀ c : Cause, State.reset.fu.latches[c.place.val] = false ∧ State.reset.fu.enables[c.place.val] = true) ∧
    State.reset.mi.line = .idle ∧ State.reset.mi.item = .portalControl ∧ State.reset.mi.partialByte = none ∧
    State.reset.mi.table = 0 ∧ State.reset.mi.mode = .address ∧ State.reset.mi.addr = 0 ∧ State.reset.mi.status = .ok ∧
    State.reset.acc.locks = [] ∧ State.reset.su.verified = [] ∧ State.reset.su.handed = none ∧
    State.reset.directory = [] ∧
    State.reset.cc.freezeList = [] ∧ State.reset.cc.freeze = none ∧ State.reset.sw.queue = [] ∧
    State.reset.sw.sweep = none ∧ State.reset.mp = { queue := [], op := none, sweepWait := 0, due := none, besideSweep := false } ∧
    State.reset.alertLow = false

/-- RESET_N asserted gives every piece of custody state its RESET_N value, whatever it was; it rises with the straps sampled (R5, R139,
R160, R167, R185). Staging memory is untouched, but for a write or burst in
flight, which is unperformed or part-performed: each of its bytes is the old one or the new one (which: a free value, log 16). While
RESET_N is low no command but the two of RESET_N changes anything, and nothing is answered (R185). -/
def Obligations.ResetPinHoldsTheBridge : Prop :=
  ((∀ s : State,
        exec .resetNAssertion s = .next
          { State.reset with
            pins := { s.pins with resetLow := true }
            mem := s.cutOff.mem
            freeCount := s.cutOff.freeCount
            pending := s.pending }) ∧
      (∀ s : State, s.mem.wf → ∀ a : Nat,
        s.cutOff.mem.read a = s.mem.read a ∨
          match s.mp.op, s.mp.queue with
          | some .queueHead, e :: _ =>
            e.wr = true ∧ e.pa ≤ a ∧ a < e.pa + e.data.length ∧ s.cutOff.mem.read a = e.data.getD (a - e.pa) 0#8
          | some (.sweepBurst _ _ pa _), _ => pa ≤ a ∧ a < pa + 64 ∧ s.cutOff.mem.read a = 0#8
          | _, _ => False) ∧
      ∀ (s : State) (adr msize : BitVec 2), s.pins.resetLow = true →
        exec (.resetNRelease adr msize) s = .next
          { s with pins := { resetLow := false, adr := adr, msize := msize }, out := BusOut.quiet }) ∧
    (∀ (s : State) (c : Instr), s.pins.resetLow = true → c ≠ .resetNAssertion → (∀ a m, c ≠ .resetNRelease a m) →
      exec c s = .next { s with out := BusOut.quiet })

/-! Staging-bus accesses. -/

/-- An access of size 2^n at an address lies in the window that the upper 6 bits name, at the lower 18 bits with the lowest n bits as zero,
and does not leave the window (R1, R20). The first of the fourteen steps whose condition holds decides an access (R22). The area of every offset
(R8), the rights of every role in every stage (R31), and the codes of the responses on SB_RESP and SB_QRESP (R184). -/
def Obligations.AccessesAreDecidedInOrder : Prop :=
  (∀ a : Access, a.noSize = false →
      a.slot.val = a.addr.toNat / 2 ^ 18 ∧
        a.offset = a.addr.toNat % 2 ^ 18 - a.addr.toNat % 2 ^ a.sizeCode.toNat ∧
        a.offset + a.size ≤ 2 ^ 18 ∧ a.size ∣ a.offset) ∧
    (∀ (s : State) (a : Access),
      (s.decidingStep a = 14 ↔ ∀ k ∈ Finset.Icc 1 13, ¬s.condition a k) ∧
        ∀ k ∈ Finset.Icc 1 13,
          s.decidingStep a = k ↔ s.condition a k ∧ ∀ j ∈ Finset.Icc 1 13, j < k → ¬s.condition a j) ∧
    (∀ x : Nat,
      (areaOf x = .status ↔ x ≤ 0x00F) ∧ (areaOf x = .notes ↔ 0x010 ≤ x ∧ x ≤ 0x03F ∨ 0x210 ≤ x ∧ x ≤ 0xFFF) ∧
        (areaOf x = .index ↔ 0x040 ≤ x ∧ x ≤ 0x07F) ∧ (areaOf x = .card ↔ 0x080 ≤ x ∧ x ≤ 0x11F) ∧
        (areaOf x = .print ↔ 0x120 ≤ x ∧ x ≤ 0x16F) ∧ (areaOf x = .readback ↔ 0x170 ≤ x ∧ x ≤ 0x20F) ∧
        (areaOf x = .frame ↔ 0x1000 ≤ x)) ∧
    (∀ (role : Role) (st : Stage) (wr : Bool) (area : Area),
      hasRight role st wr area = true ↔
        role = .controller ∧ st ∈ [Stage.loaded, .scanning, .decoding, .composing, .frozen, .verified, .held] ∧
            (wr = false ∧ area ≠ .status ∨ wr = true ∧ area = .notes) ∨
          role = .controller ∧ st = .composing ∧ wr = true ∧ (area = .card ∨ area = .print) ∨
          role = .scanner ∧ st = .scanning ∧ wr = true ∧ area = .frame ∨
          role = .decoder ∧ st = .decoding ∧ (wr = false ∧ area = .frame ∨ wr = true ∧ area = .index) ∨
          role = .punch ∧ st = .frozen ∧ wr = false ∧ area = .card ∨
          role = .printer ∧ st = .frozen ∧ wr = false ∧ area = .print ∨
          role = .verifier ∧ st = .frozen ∧ (wr = false ∧ area = .frame ∨ wr = true ∧ area = .readback)) ∧
    (BusResponse.none.code = 0b00#2 ∧ BusResponse.accepted.code = 0b01#2 ∧ BusResponse.denied.code = 0b10#2 ∧
      BusResponse.wait.code = 0b11#2)

/-- An access with size code 7, and one that step 1 or 8 decides, is DENIED without a record: a read's bytes are 00h, and the holder's
lock-close write ends its lock at steps 1 and 8; nothing else changes (R20, R21, R23, R30, R120; the 64 bytes of a read of no size: log 11).
-/
def Obligations.DenialsWithoutRecord : Prop :=
  ∀ (s : State) (a : Access) (d : Bool), s.busFree →
    (a.noSize = true →
      exec (.stagingBusAccess a d) s = .next
        { s with out := BusOut.respond .denied (if a.wr then [] else List.replicate 64 0#8) }) ∧
    (a.noSize = false → s.decidingStep a = 1 ∨ s.decidingStep a = 8 →
      exec (.stagingBusAccess a d) s = .next
        { s with
          acc := s.locksAfter (a.wr && a.lclose) a.slot a.tag
          out := BusOut.respond .denied (if a.wr then [] else List.replicate a.size 0#8) })

/-- Steps 2, 4, 5 and 9 answer DENIED and hand over a STRANGER, ABSENT, LIMIT or PERMISSION report with the fields of R42; the holder's
lock-close write ends its lock at all of them but step 2; nothing else changes (R24, R26, R27, R31, R32, R42, R120). -/
def Obligations.DenialsWithRecord : Prop :=
  ∀ (s : State) (a : Access) (d : Bool) (kind : FaultKind) (detail : FaultDetail),
    s.busFree → a.noSize = false →
    (s.decidingStep a = 2 ∧ kind = .stranger ∧ detail = .plain ∨
      s.decidingStep a = 4 ∧ kind = .absent ∧ detail = .plain ∨
      s.decidingStep a = 5 ∧ kind = .limit ∧ detail = .plain ∨
      s.decidingStep a = 9 ∧ kind = .permission ∧
        ∃ k < a.size,
          hasRight (s.role a.tag) (s.slot a.slot).stage a.wr (areaOf (a.offset + k)) = false ∧
            (∀ j < k, hasRight (s.role a.tag) (s.slot a.slot).stage a.wr (areaOf (a.offset + j)) = true) ∧
            detail = .area (areaOf (a.offset + k))) →
    exec (.stagingBusAccess a d) s = .next
      { s with
        acc := s.locksAfter (a.wr && a.lclose && kind != .stranger) a.slot a.tag
        fu := s.fu.push
          { kind := kind
            slot := a.slot
            agent := some a.tag
            stage := (s.slot a.slot).stage
            detail := detail
            offset := some a.offset
            valueA := BitVec.ofNat 16 a.size
            valueB := BitVec.ofNat 16 ((s.role a.tag).code * 256 + if a.wr then 1 else 0)
            readback := none }
        out := BusOut.respond .denied (if a.wr then [] else List.replicate a.size 0#8) }

/-- A WAIT changes no state anywhere in the bridge (R41), at whichever step it is answered (R25, R28, R29, R33 to R37). -/
def Obligations.WaitsChangeNothing : Prop :=
  ∀ (s : State) (a : Access) (d : Bool), s.busFree → a.noSize = false →
    (s.decidingStep a = 7 ∨ s.decidingStep a = 11 ∨ s.decidingStep a = 13 ∨
      s.decidingStep a = 3 ∧ 16 < a.size ∧ (s.slot a.slot).stage ≠ .vacant ∧ (s.slot a.slot).stage ≠ .sweeping ∧
        16 ≤ s.mp.queue.length ∨
      (s.decidingStep a = 6 ∨ s.decidingStep a = 10) ∧ (∃ l ∈ s.acc.locks, l.slot = a.slot ∧ l.tag ≠ a.tag) ∨
      s.decidingStep a = 12 ∧
        (s.role a.tag = .punch ∨
          (s.slot a.slot).punch = false ∨ (s.slot a.slot).print = false ∨ (s.slot a.slot).retryTimer ≠ none)) →
    exec (.stagingBusAccess a d) s = .next { s with out := BusOut.respond .wait [] }

/-- A status-block read is ACCEPTED at once with live status, with zeros for NOTES of a VACANT or SWEEPING slot; a 32- or 64-byte one of a
slot in another stage takes a place in the memory queue (R13, R14, R25). The sixteen bytes of a slot's status block (R2, R11, R15, R61, R87,
R96, R117). -/
def Obligations.StatusBlockReads : Prop :=
  (∀ (s : State) (a : Access) (d : Bool), s.busFree → a.noSize = false → s.decidingStep a = 3 →
      (a.size ≤ 16 →
        exec (.stagingBusAccess a d) s = .next
          { s with out := BusOut.respond .accepted (((s.statusBytes a.slot).drop a.offset).take a.size) }) ∧
      (16 < a.size → (s.slot a.slot).stage = .vacant ∨ (s.slot a.slot).stage = .sweeping →
        exec (.stagingBusAccess a d) s = .next
          { s with out := BusOut.respond .accepted (s.statusBytes a.slot ++ List.replicate (a.size - 16) 0#8) }) ∧
      (16 < a.size → (s.slot a.slot).stage ≠ .vacant → (s.slot a.slot).stage ≠ .sweeping → s.mp.queue.length < 16 →
        exec (.stagingBusAccess a d) s = .next
          (State.arbitrate { s with mp := s.mp.push (s.entryFor a true), out := BusOut.quiet }))) ∧
    (∀ (s : State) (n : Slot),
      let r := s.slot n
      (s.statusBytes n).length = 16 ∧
        s.statusByte n 0 = BitVec.ofNat 8 r.stage.code ∧
        s.statusByte n 1 = (match r.heldFrom with | some h => BitVec.ofNat 8 h.code | none => 0xFF#8) ∧
        s.statusByte n 2 = (match r.lastFault with | some f => BitVec.ofNat 8 f.1.code | none => 0#8) ∧
        (s.statusByte n 3).getLsbD 0 = r.keyEst ∧ (s.statusByte n 3).getLsbD 1 = r.punch ∧
        (s.statusByte n 3).getLsbD 2 = r.print ∧
        (s.statusByte n 3).getLsbD 3 = (r.guardTimer.isSome || decide (0 < r.drainCount)) ∧
        (s.statusByte n 3).getLsbD 4 = s.acc.locks.any (fun l => l.slot == n) ∧
        (s.statusByte n 3).getLsbD 5 = r.retryTimer.isSome ∧
        (s.statusByte n 3).getLsbD 6 = (match r.pred with | some p => !(s.slot p).punch | none => false) ∧
        (s.statusByte n 3).getLsbD 7 = false ∧
        joinBytes (s.statusByte n 4) (s.statusByte n 5) = r.frozenCrc ∧
        s.statusByte n 6 = BitVec.ofNat 8 r.retryCount ∧ s.statusByte n 7 = BitVec.ofNat 8 (r.rbPtr - 0x170) ∧
        s.statusByte n 8 = (match r.pred with | some p => BitVec.ofNat 8 p.val | none => 0xFF#8) ∧
        s.statusByte n 9 = (match r.succ with | some p => BitVec.ofNat 8 p.val | none => 0xFF#8) ∧
        joinBytes (s.statusByte n 10) (s.statusByte n 11) = (match r.lastFault with | some f => f.2 | none => 0#16) ∧
        ∀ k ∈ Finset.Icc 12 15, s.statusByte n k = 0#8)

/-- At step 10, once no other agent holds the slot's lock: a lock-open read whose tag holds a lock is DENIED with LOCK SECOND, and a
lock-close write where no agent holds one is DENIED with LOCK LATE; no lock changes (R118, R121). A read-back write off the read-back
pointer, once no wait holds, is DENIED; its SEQUENCE fault awaits the Card Check Unit with the pointer at its arrival (R36, R111, R116). -/
def Obligations.LockAndSequenceDenials : Prop :=
  (∀ (s : State) (a : Access) (d : Bool), s.busFree → a.noSize = false → s.decidingStep a = 10 →
      (∀ l ∈ s.acc.locks, l.slot = a.slot → l.tag = a.tag) →
      (a.wr = false → ∀ l, s.acc.locks.find? (fun l => l.tag == a.tag) = some l →
        exec (.stagingBusAccess a d) s = .next
          { s with
            fu := s.fu.push
              { kind := .lock, slot := a.slot, agent := some a.tag, stage := (s.slot a.slot).stage, detail := .lockSecond
                offset := some a.offset, valueA := BitVec.ofNat 16 l.slot.val
                valueB := BitVec.ofNat 16 ((s.role a.tag).code * 256), readback := none }
            out := BusOut.respond .denied (List.replicate a.size 0#8) }) ∧
      (a.wr = true →
        exec (.stagingBusAccess a d) s = .next
          { s with
            fu := s.fu.push
              { kind := .lock, slot := a.slot, agent := some a.tag, stage := (s.slot a.slot).stage, detail := .lockLate
                offset := some a.offset, valueA := BitVec.ofNat 16 a.size
                valueB := BitVec.ofNat 16 ((s.role a.tag).code * 256 + 1), readback := none }
            out := BusOut.respond .denied [] })) ∧
    (∀ (s : State) (a : Access) (d : Bool), s.busFree → a.noSize = false → s.decidingStep a = 12 →
      s.role a.tag = .verifier → (s.slot a.slot).punch = true → (s.slot a.slot).print = true →
      (s.slot a.slot).retryTimer = none →
      exec (.stagingBusAccess a d) s = .next
        { s with
          acc := s.locksAfter a.lclose a.slot a.tag
          cc :=
            { s.cc with
              seqFaults := s.cc.seqFaults ++
                [{ slot := a.slot, tag := a.tag, offset := a.offset, pointer := (s.slot a.slot).rbPtr, size := a.size }] }
          out := BusOut.respond .denied [] })

/-- A write that reaches step 14 and meets no tap is ACCEPTED, takes the next place in the memory queue with its physical address, and, as
its tag's lock-close, ends the lock (R6, R38, R120, R125). A read that reaches step 14 takes the next place in the memory queue without an
answer yet; a lock-open read creates its lock with the timeout of the timing table (R39, R118, R184, R185). -/
def Obligations.AcceptedAccessesAreQueued : Prop :=
  (∀ (s : State) (a : Access) (d : Bool), s.busFree → a.noSize = false → s.decidingStep a = 14 →
      a.wr = true → ¬(s.role a.tag = .decoder ∧ a.touches .index) → ¬(s.role a.tag = .verifier ∧ a.touches .readback) →
      exec (.stagingBusAccess a d) s = .next (State.arbitrate
        { s with
          acc := s.locksAfter a.lclose a.slot a.tag
          mp := s.mp.push (s.entryFor a false)
          out := BusOut.respond .accepted [] })) ∧
    (∀ (s : State) (a : Access) (d : Bool), s.busFree → a.noSize = false → s.decidingStep a = 14 →
      a.wr = false →
      exec (.stagingBusAccess a d) s = .next (State.arbitrate
        { s with
          acc :=
            { s.acc with
              locks :=
                if a.lopen then
                  s.acc.locks ++
                    [{ slot := a.slot, tag := a.tag, offset := a.offset, timeout := s.su.timing.lockTimeout.toNat
                       ticks := s.su.timing.lockTimeout.toNat + 1 }]
                else s.acc.locks }
          mp := s.mp.push (s.entryFor a false)
          out := BusOut.quiet }))

/-- An accepted DECODER write to INDEX that is no closing sets MATCH or MISMATCH for each key byte it covers and keeps the others (R70,
R72). -/
def Obligations.IndexWritesAreFollowed : Prop :=
  ∀ (s : State) (a : Access) (d : Bool), s.busFree → a.noSize = false → s.decidingStep a = 14 →
    a.wr = true → s.role a.tag = .decoder → a.touches .index → ¬a.closes 1#8 → ¬a.closes 2#8 →
    ∃ keys, a.follows (s.slot a.slot) keys ∧
      exec (.stagingBusAccess a d) s = .next (State.arbitrate
        { s with
          slots := s.slots.set a.slot.val { s.slot a.slot with keys := keys }
          acc := s.locksAfter a.lclose a.slot a.tag
          mp := s.mp.push (s.entryFor a false)
          out := BusOut.respond .accepted [] })

/-- An accepted COMPLETE closing with all 22 key bytes in MATCH and no equal key of another slot in the directory establishes the key and
moves the slot to COMPOSING in one event, its drain count including the closing write (R47, R61, R73, R74). -/
def Obligations.MatchingClosingEstablishesTheKey : Prop :=
  ∀ (s : State) (a : Access) (d : Bool) (keys : Vector KeyState 22), s.busFree → a.noSize = false →
    s.decidingStep a = 14 → a.wr = true → s.role a.tag = .decoder → a.touches .index → a.closes 1#8 →
    a.follows (s.slot a.slot) keys → (∀ k : Fin 22, keys[k.val] = .matched) →
    (∀ e ∈ s.directory, e.slot ≠ a.slot → e.key ≠ (s.slot a.slot).key) →
    exec (.stagingBusAccess a d) s = .next (State.arbitrate
      { s with
        slots := s.slots.set a.slot.val
          { s.handedTo a.slot .composing with keys := keys, keyEst := true, drainCount := s.queuedOf a.slot + 1 }
        acc := s.locksOff a.slot
        directory := s.directory ++ [{ slot := a.slot, key := (s.slot a.slot).key }]
        mp := s.mp.push (s.entryFor a false)
        out := BusOut.respond .accepted [] })

/-- Any other accepted closing is written, establishes no key and hands over one report: INDEX UNWRITTEN or MISMATCH with the lowest such
key byte, DUPLICATE with the other slot, or VOID; value B holds the closing-seen flag and the number of key bytes in MATCH (R73, R75, R76).
-/
def Obligations.FailedClosingsAreReported : Prop :=
  ∀ (s : State) (a : Access) (d : Bool) (keys : Vector KeyState 22) (kind : FaultKind) (detail : FaultDetail) (v : Nat),
    s.busFree → a.noSize = false → s.decidingStep a = 14 → a.wr = true → s.role a.tag = .decoder →
    a.touches .index → a.follows (s.slot a.slot) keys →
    (a.closes 1#8 ∧ kind = .index ∧ detail = .indexUnwritten ∧
        (∃ k : Fin 22, v = k.val ∧ keys[k.val] = .unwritten ∧ ∀ j : Fin 22, j < k → keys[j.val] ≠ .unwritten) ∨
      a.closes 1#8 ∧ kind = .index ∧ detail = .indexMismatch ∧ (∀ j : Fin 22, keys[j.val] ≠ .unwritten) ∧
        (∃ k : Fin 22, v = k.val ∧ keys[k.val] = .mismatched ∧ ∀ j : Fin 22, j < k → keys[j.val] ≠ .mismatched) ∨
      a.closes 1#8 ∧ kind = .duplicate ∧ detail = .plain ∧ (∀ j : Fin 22, keys[j.val] = .matched) ∧
        (∃ e, s.directory.find? (fun e => e.slot != a.slot && e.key == (s.slot a.slot).key) = some e ∧ v = e.slot.val) ∨
      a.closes 2#8 ∧ kind = .void ∧ detail = .plain ∧ v = 0) →
    exec (.stagingBusAccess a d) s = .next (State.arbitrate
      { s with
        slots := s.slots.set a.slot.val { s.slot a.slot with keys := keys }
        acc := s.locksAfter a.lclose a.slot a.tag
        mp := s.mp.push (s.entryFor a false)
        fu := s.fu.push
          { kind := kind
            slot := a.slot
            agent := some a.tag
            stage := .decoding
            detail := detail
            offset := some a.offset
            valueA := BitVec.ofNat 16 v
            valueB := BitVec.ofNat 16
              ((if (s.slot a.slot).closingSeen then 1 else 0) * 256 + keys.toList.count .matched)
            readback := none }
        out := BusOut.respond .accepted [] })

/-- An accepted read-back write enters its bytes into the running CRC and advances the pointer by its size; short of 210h nothing is
compared (R107, R108). The read-back write that brings the pointer to 210h with a running CRC equal to the frozen CRC moves the slot to
VERIFIED, to the tail of the verified queue, with SLOT VERIFIED latched (R108, R109, R162), and a
read that returned an earlier entry of the slot removes nothing further (R60, R181). -/
def Obligations.ReadbackRuns : Prop :=
  (∀ (s : State) (a : Access) (d : Bool), s.busFree → a.noSize = false → s.decidingStep a = 14 →
      a.wr = true → s.role a.tag = .verifier → a.touches .readback → (s.slot a.slot).rbPtr + a.size ≠ 0x210 →
      exec (.stagingBusAccess a d) s = .next (State.arbitrate
        { s with
          slots := s.slots.set a.slot.val
            { s.slot a.slot with
              runCrc := crcBytes (s.slot a.slot).runCrc (s.entryFor a false).data
              rbPtr := (s.slot a.slot).rbPtr + a.size }
          acc := s.locksAfter a.lclose a.slot a.tag
          mp := s.mp.push (s.entryFor a false)
          out := BusOut.respond .accepted [] })) ∧
    (∀ (s : State) (a : Access) (d : Bool), s.busFree → a.noSize = false → s.decidingStep a = 14 →
      a.wr = true → s.role a.tag = .verifier → a.touches .readback → (s.slot a.slot).rbPtr + a.size = 0x210 →
      crcBytes (s.slot a.slot).runCrc (s.entryFor a false).data = (s.slot a.slot).frozenCrc →
      exec (.stagingBusAccess a d) s = .next (State.arbitrate
        { s with
          slots := s.slots.set a.slot.val
            { s.handedTo a.slot .verified with
              runCrc := (s.slot a.slot).frozenCrc
              rbPtr := 0x210
              drainCount := s.queuedOf a.slot + 1 }
          acc := s.locksOff a.slot
          su := { s.su with verified := s.su.verified ++ [a.slot] }
          mp := s.mp.push (s.entryFor a false)
          fu := { s.fu with latches := s.fu.latches.set 5 true }
          mi := { s.mi with sending := s.mi.sending.map fun x => (x.rejoined a.slot).latchedAgain .slotVerified }
          out := BusOut.respond .accepted [] }))

/-- The read-back write that brings the pointer to 210h with another CRC raises READBACK MISMATCH: retried while the raised count is within
the limit, with the read-back begun afresh and the retry timer started, exhausted beyond it, or left to the programmed HOLD (R110, R112,
R113, R115). -/
def Obligations.ReadbackMismatches : Prop :=
  ∀ (s : State) (a : Access) (d : Bool) (r : SlotRec) (o : ReadbackOutcome) (crc : Word), s.busFree →
    a.noSize = false → s.decidingStep a = 14 → a.wr = true → s.role a.tag = .verifier → a.touches .readback →
    (s.slot a.slot).rbPtr + a.size = 0x210 → crc = crcBytes (s.slot a.slot).runCrc (s.entryFor a false).data →
    crc ≠ (s.slot a.slot).frozenCrc →
    (s.programmed .readback = .retry ∧ (s.slot a.slot).retryCount < s.su.timing.retryLimit.toNat ∧ o = .retried ∧
        r = { s.slot a.slot with
              runCrc := 0xFFFF#16
              rbPtr := 0x170
              retryCount := (s.slot a.slot).retryCount + 1
              retryTimer :=
                if s.su.timing.retryDelay = 0#16 then none else some (1000 * s.su.timing.retryDelay.toNat + 1) } ∨
      s.programmed .readback = .retry ∧ (s.slot a.slot).retryCount = s.su.timing.retryLimit.toNat ∧
        o = .exhausted ((s.slot a.slot).retryCount + 1) ∧
        r = { s.slot a.slot with runCrc := crc, rbPtr := 0x210, retryCount := (s.slot a.slot).retryCount + 1 } ∨
      s.programmed .readback = .retry ∧ s.su.timing.retryLimit.toNat < (s.slot a.slot).retryCount ∧
        o = .exhausted (s.slot a.slot).retryCount ∧ r = { s.slot a.slot with runCrc := crc, rbPtr := 0x210 } ∨
      s.programmed .readback = .hold ∧ o = .holdProgrammed ∧ r = { s.slot a.slot with runCrc := crc, rbPtr := 0x210 }) →
    exec (.stagingBusAccess a d) s = .next (State.arbitrate
      { s with
        slots := s.slots.set a.slot.val r
        acc := s.locksAfter a.lclose a.slot a.tag
        mp := s.mp.push (s.entryFor a false)
        fu := s.fu.push
          { kind := .readback, slot := a.slot, agent := some a.tag, stage := .frozen, detail := .readbackMismatch
            offset := some a.offset, valueA := crc, valueB := (s.slot a.slot).frozenCrc, readback := some o }
        out := BusOut.respond .accepted [] })

/-- A write covering STATUS that passes step 6 goes to the Stage Unit: handed over for a later event of the same edge, or taken at once. Another
shape than one byte at 000h is refused as MALFORMED, a code that is no request as UNKNOWN CODE, and a request is the request's own event. An access
arrives at a new edge, so none arrives while a write is still in hand (R28, R44, R45, R184; the event the Stage Unit takes it in: the model's
choice, log 4). -/
def Obligations.StatusWritesGoToTheStageUnit : Prop :=
  (∀ (s : State) (a : Access) (d : Bool), s.pins.resetLow = false → s.su.handed ≠ none →
      exec (.stagingBusAccess a d) s = .next { s with out := BusOut.quiet }) ∧
  ∀ (s : State) (a : Access), s.busFree → a.noSize = false → s.decidingStep a = 6 →
    (∀ l ∈ s.acc.locks, l.slot = a.slot → l.tag = a.tag) →
    exec (.stagingBusAccess a true) s = .next
      { s with
        su :=
          { s.su with
            handed := some
              { slot := a.slot, tag := a.tag, role := s.role a.tag, offset := a.offset, size := a.size
                code := a.byteAt a.offset, lclose := a.lclose } }
        out := BusOut.quiet } ∧
    (∀ (detail : FaultDetail) (v : Word), s.fu.bridge = .guarding →
      (¬(a.size = 1 ∧ a.offset = 0) ∧ detail = .malformed ∧ v = BitVec.ofNat 16 a.size ∨
        a.size = 1 ∧ a.offset = 0 ∧ ¬(0x11 ≤ (a.byteAt 0).toNat ∧ (a.byteAt 0).toNat ≤ 0x17) ∧
          detail = .unknownCode ∧ v = (a.byteAt 0).setWidth 16) →
      exec (.stagingBusAccess a false) s = .next
        { s with
          acc := s.locksAfter a.lclose a.slot a.tag
          fu := s.fu.push
            { kind := .request, slot := a.slot, agent := some a.tag, stage := (s.slot a.slot).stage, detail := detail
              offset := some a.offset, valueA := v, valueB := BitVec.ofNat 16 ((s.role a.tag).code * 256 + 1)
              readback := none }
          out := BusOut.respond .denied [] }) ∧
    ∀ q : StageRequest, a.size = 1 → a.offset = 0 → a.byteAt 0 = q.code →
      exec (.stagingBusAccess a false) s = exec (q.command a.slot a.tag a.lclose) s

/-! Stage requests. -/

/-- OPEN of a LOADED slot with no requested predecessor moves it to SCANNING as a chain head, with the last fault fields none (R2, R43, R47,
R48, R84). OPEN of a LOADED slot whose requested predecessor passes the chain checks sets the links both ways in the event of the stage
change; of the predecessor nothing else changes (R43, R47, R48, R85, R86). -/
def Obligations.OpenStartsScanning : Prop :=
  (∀ (s s₀ : State) (n : Slot) (t : Tag) (c : Bool) (w : StageWrite), s.eventTakes n t c .openCard w s₀ →
      w.asks .openCard → s.fu.bridge = .guarding → (s.slot n).stage = .loaded → (s.slot n).requested = 0xFFFF#16 →
      exec (.openCard n t c) s = .next
        { s₀ with
          slots := s.slots.set n.val { s.handedTo n .scanning with lastFault := none }
          acc := s.locksOff n
          out := BusOut.respond .accepted [] }) ∧
    (∀ (s s₀ : State) (n p : Slot) (t : Tag) (c : Bool) (w : StageWrite), s.eventTakes n t c .openCard w s₀ →
      w.asks .openCard → s.fu.bridge = .guarding → (s.slot n).stage = .loaded →
      (s.slot n).requested = BitVec.ofNat 16 p.val →
      ((s.slot p).stage = .scanning ∨ (s.slot p).stage = .decoding ∨ (s.slot p).stage = .composing ∨
        (s.slot p).stage = .freezing ∨ (s.slot p).stage = .frozen ∨ (s.slot p).stage = .verified ∨
        (s.slot p).stage = .held ∧ (s.slot p).heldFrom ≠ some .sweeping) →
      (s.slot p).succ = none → p ≠ n →
      (s.slot p).key.take 18 = (s.slot n).key.take 18 → (s.slot p).desc[13] = (s.slot n).desc[13] →
      (s.slot p).sectionCount = (s.slot n).sectionCount → (s.slot n).sectionNo = (s.slot p).sectionNo + 1 →
      exec (.openCard n t c) s = .next
        { s₀ with
          slots := (s.slots.set p.val { s.slot p with succ := some n }).set n.val
            { s.handedTo n .scanning with lastFault := none, pred := some p }
          acc := s.locksOff n
          out := BusOut.respond .accepted [] })

/-- FRAME DONE moves a SCANNING slot to DECODING with all key bytes UNWRITTEN and closing-seen clear (R43, R47, R49, R69). -/
def Obligations.FrameDoneStartsDecoding : Prop :=
  ∀ (s s₀ : State) (n : Slot) (t : Tag) (c : Bool) (w : StageWrite), s.eventTakes n t c .frameDone w s₀ →
    w.asks .frameDone → s.fu.bridge = .guarding → (s.slot n).stage = .scanning →
    exec (.frameDone n t c) s = .next
      { s₀ with
        slots := s.slots.set n.val
          { s.handedTo n .decoding with keys := Vector.replicate 22 .unwritten, closingSeen := false }
        acc := s.locksOff n
        out := BusOut.respond .accepted [] }

/-- FREEZE moves a COMPOSING slot to FREEZING and to the tail of the freeze order list (R43, R47, R50, R97, R98). -/
def Obligations.FreezeJoinsTheFreezeOrderList : Prop :=
  ∀ (s s₀ : State) (n : Slot) (t : Tag) (c : Bool) (w : StageWrite), s.eventTakes n t c .freeze w s₀ →
    w.asks .freeze → s.fu.bridge = .guarding → (s.slot n).stage = .composing →
    exec (.freeze n t c) s = .next (State.arbitrate
      { s₀ with
        slots := s.slots.set n.val (s.handedTo n .freezing)
        acc := s.locksOff n
        cc :=
          { s.cc with
            freezeList := s.cc.freezeList ++ [n]
            freeze := nextFreeze (s.cc.freezeList ++ [n]) s.cc.freeze s.mp.op }
        out := BusOut.respond .accepted [] })

/-- RETIRE moves a VERIFIED slot to SWEEPING, keyless, unlinked, out of the verified queue and at the tail of the sweep queue, in one event
(R43, R47, R51, R60, R80, R89, R134). -/
def Obligations.RetireStartsSweeping : Prop :=
  ∀ (s s₀ : State) (n : Slot) (t : Tag) (c : Bool) (w : StageWrite), s.eventTakes n t c .retire w s₀ →
    w.asks .retire → s.fu.bridge = .guarding → (s.slot n).stage = .verified →
    ∃ slots,
      (∀ m : Slot, slots[m.val] = if m = n then s.leaving n else s.cutFrom n m) ∧
      exec (.retire n t c) s = .next
        { s₀ with
          slots := slots
          acc := s.locksOff n
          su := { s₀.su with verified := s.su.verified.filter fun m => m != n }
          directory := s.directory.filter fun e => e.slot != n
          sw := { s.sw with queue := s.sw.queue ++ [n] }
          out := BusOut.respond .accepted [] }

/-- REOPEN of a HELD slot takes the card back to SCANNING with key, match state, card check state and completion flags cleared, and keeps
its descriptor, links and last fault (R43, R47, R58, R69, R80, R94, R96). -/
def Obligations.ReopenRestartsTheCard : Prop :=
  ∀ (s s₀ : State) (n : Slot) (t : Tag) (c : Bool) (w : StageWrite) (h : Stage), s.eventTakes n t c .reopen w s₀ →
    w.asks .reopen → s.fu.bridge = .guarding → (s.slot n).stage = .held → (s.slot n).heldFrom = some h →
    h ∈ [Stage.scanning, .decoding, .composing, .freezing, .frozen, .verified] →
    (∀ q, (s.slot n).succ = some q → (s.slot q).punch = false) →
    exec (.reopen n t c) s = .next
      { s₀ with
        slots := s.slots.set n.val
          { s.handedTo n .scanning with
            keyEst := false
            keys := Vector.replicate 22 .unwritten
            closingSeen := false
            punch := false
            print := false
            frozenCrc := 0#16
            rbPtr := 0x170
            runCrc := 0xFFFF#16
            retryCount := 0
            retryTimer := none }
        acc := s.locksOff n
        directory := s.directory.filter fun e => e.slot != n
        out := BusOut.respond .accepted [] }

/-- RESUME moves a HELD slot to the stage the table gives for its held-from stage and clears or redoes what the table names; a slot that joins the
verified queue anew is not removed by a read that returned its earlier entry (R43, R47, R56, R57, R60, R134, R181). -/
def Obligations.ResumeReturnsToTheHeldFromStage : Prop :=
  ∀ (s s₀ : State) (n : Slot) (t : Tag) (c : Bool) (w : StageWrite) (h : Stage) (r : SlotRec) (v q : List Slot),
    s.eventTakes n t c .resume w s₀ → w.asks .resume → s.fu.bridge = .guarding → (s.slot n).stage = .held →
    (s.slot n).heldFrom = some h →
    (h = .scanning ∧ r = s.handedTo n .scanning ∧ v = s.su.verified ∧ q = s.sw.queue ∨
      h = .decoding ∧ v = s.su.verified ∧ q = s.sw.queue ∧
        r = { s.handedTo n .decoding with keys := Vector.replicate 22 .unwritten, closingSeen := false } ∨
      h = .composing ∧ r = s.handedTo n .composing ∧ v = s.su.verified ∧ q = s.sw.queue ∨
      h = .freezing ∧ r = s.handedTo n .composing ∧ v = s.su.verified ∧ q = s.sw.queue ∨
      h = .frozen ∧ v = s.su.verified ∧ q = s.sw.queue ∧
        r = { s.handedTo n .frozen with rbPtr := 0x170, runCrc := 0xFFFF#16, retryCount := 0 } ∨
      h = .verified ∧ r = s.handedTo n .verified ∧ v = s.su.verified ++ [n] ∧ q = s.sw.queue ∨
      h = .sweeping ∧ r = { s.handedTo n .sweeping with guardTimer := none } ∧ v = s.su.verified ∧
        q = s.sw.queue ++ [n]) →
    exec (.resume n t c) s = .next
      { s₀ with
        slots := s.slots.set n.val r
        acc := s.locksOff n
        su := { s₀.su with verified := v }
        sw := { s.sw with queue := q }
        mi := { s.mi with sending := if h = .verified then s.mi.sending.map fun x => x.rejoined n else s.mi.sending }
        out := BusOut.respond .accepted [] }

/-- DISCARD of a LOADED slot returns it to VACANT with its descriptor and last fault kept (R17, R43, R47, R52). DISCARD from SCANNING
through HELD moves the slot to SWEEPING and to the tail of the sweep queue, its key released and its links cleared; a FREEZING slot leaves
the freeze order list and its freeze is abandoned, a FROZEN one's retry timer stops, a VERIFIED one leaves the verified queue; a live
successor receives a CHAIN ORPHAN report with the fields of R91 (R43, R47, R53, R60, R80, R90, R91, R97, R101, R114, R134). -/
def Obligations.DiscardEmptiesOrSweeps : Prop :=
  (∀ (s s₀ : State) (n : Slot) (t : Tag) (c : Bool) (w : StageWrite), s.eventTakes n t c .discard w s₀ →
      w.asks .discard → s.fu.bridge = .guarding → (s.slot n).stage = .loaded →
      exec (.discard n t c) s = .next
        { s₀ with
          slots := s.slots.set n.val (s.slot n).emptied
          acc := s.locksOff n
          out := BusOut.respond .accepted [] }) ∧
    (∀ (s s₀ : State) (n : Slot) (t : Tag) (c : Bool) (w : StageWrite), s.eventTakes n t c .discard w s₀ →
      w.asks .discard → s.fu.bridge = .guarding →
      (s.slot n).stage ∈ [Stage.scanning, .decoding, .composing, .freezing, .frozen, .verified, .held] →
      ∃ slots,
        (∀ m : Slot, slots[m.val] =
          if m = n then
            { s.leaving n with retryTimer := if (s.slot n).stage = .frozen then none else (s.slot n).retryTimer }
          else s.cutFrom n m) ∧
        exec (.discard n t c) s = .next (State.arbitrate
          { s₀ with
            slots := slots
            acc := s.locksOff n
            su :=
              { s₀.su with
                verified :=
                  if (s.slot n).stage = .verified then s.su.verified.filter fun m => m != n else s.su.verified }
            directory := s.directory.filter fun e => e.slot != n
            cc := if (s.slot n).stage = .freezing then s.cc.without n s.mp.op else s.cc
            mp := if (s.slot n).stage = .freezing then s.mp.withoutFreeze s.cc n else s.mp
            sw := { s.sw with queue := s.sw.queue ++ [n] }
            fu :=
              match (s.slot n).succ with
              | some q =>
                s.fu.push
                  { kind := .chain, slot := q, agent := some t, stage := (s.slot q).stage, detail := .orphan, offset := none
                    valueA := BitVec.ofNat 16 n.val
                    valueB := BitVec.ofNat 16 ((s.slot n).stage.code * 256 + if (s.slot n).punch then 1 else 0)
                    readback := none }
              | none => s.fu
            out := BusOut.respond .accepted [] }))

/-- A write that fails a test of R44 is DENIED and changes nothing but the writer's lock, which its lock-close ends; the REQUEST report
carries the detail of the first test that fails and the fields of R45 (R28, R44, R45, R85, R94, R120). The stages, and in HELD the held-from
stages, in which the request table takes each request (R43, R44, R56, R58). A write handed over before the bridge became BLOCKED, and taken
while it is, is DENIED without the tests and without a record; its lock-close still ends the writer's lock (R28, R120, R153). That the event of
any request row refuses a handed-over write that is malformed or no request, and that a request row takes a write handed over, is the model's choice
(log 4). -/
def Obligations.RequestsAreRefused : Prop :=
  (∀ (s s₀ : State) (n : Slot) (t : Tag) (c : Bool) (q : StageRequest) (w : StageWrite) (detail : FaultDetail)
      (a : Word) (low : Nat), s.eventTakes n t c q w s₀ → s.fu.bridge = .guarding →
      (¬(w.size = 1 ∧ w.offset = 0) ∧ detail = .malformed ∧ a = BitVec.ofNat 16 w.size ∧ low = 1 ∨
        w.size = 1 ∧ w.offset = 0 ∧ ¬(0x11 ≤ w.code.toNat ∧ w.code.toNat ≤ 0x17) ∧ detail = .unknownCode ∧
          a = w.code.setWidth 16 ∧ low = 1 ∨
        w.size = 1 ∧ w.offset = 0 ∧ w.code = q.code ∧ a = w.code.setWidth 16 ∧
          (w.role ≠ q.role ∧ detail = .wrongRole ∧ low = 1 ∨
            w.role = q.role ∧ q.takenIn (s.slot n) = false ∧ detail = .wrongStage ∧ low = 1 ∨
            w.role = q.role ∧ q = .openCard ∧ (s.slot n).stage = .loaded ∧ detail = .chainRefused ∧
              (∃ p : Slot, (s.slot n).requested = BitVec.ofNat 16 p.val ∧ low = p.val ∧
                ¬((s.slot p).inService = true ∧ (s.slot p).succ = none ∧ p ≠ n ∧
                  (s.slot p).key.take 18 = (s.slot n).key.take 18 ∧ (s.slot p).desc[13] = (s.slot n).desc[13] ∧
                  (s.slot p).sectionCount = (s.slot n).sectionCount ∧
                  (s.slot n).sectionNo = (s.slot p).sectionNo + 1)) ∨
            w.role = q.role ∧ q = .reopen ∧ q.takenIn (s.slot n) = true ∧ detail = .chainRefused ∧
              (∃ p : Slot, (s.slot n).succ = some p ∧ (s.slot p).punch = true ∧ low = p.val))) →
      exec (q.command n t c) s = .next
        { s₀ with
          acc := s.locksAfter w.lclose n t
          fu := s.fu.push
            { kind := .request, slot := n, agent := some t, stage := (s.slot n).stage, detail := detail
              offset := some w.offset, valueA := a, valueB := BitVec.ofNat 16 (w.role.code * 256 + low), readback := none }
          out := BusOut.respond .denied [] }) ∧
    (∀ r : SlotRec,
      (StageRequest.openCard.takenIn r = true ↔ r.stage = .loaded) ∧
      (StageRequest.frameDone.takenIn r = true ↔ r.stage = .scanning) ∧
      (StageRequest.freeze.takenIn r = true ↔ r.stage = .composing) ∧
      (StageRequest.retire.takenIn r = true ↔ r.stage = .verified) ∧
      (StageRequest.reopen.takenIn r = true ↔
        r.stage = .held ∧ ∃ h ∈ [Stage.scanning, .decoding, .composing, .freezing, .frozen, .verified], r.heldFrom = some h) ∧
      (StageRequest.discard.takenIn r = true ↔ r.stage ≠ .vacant ∧ r.stage ≠ .sweeping) ∧
      (StageRequest.resume.takenIn r = true ↔
        r.stage = .held ∧ ∃ h, r.heldFrom = some h ∧ h ≠ .vacant ∧ h ≠ .loaded ∧ h ≠ .held)) ∧
    (∀ (s s₀ : State) (n : Slot) (t : Tag) (c : Bool) (q : StageRequest) (w : StageWrite), s.eventTakes n t c q w s₀ →
      s.fu.bridge = .blocked →
      exec (q.command n t c) s = .next
        { s₀ with acc := s.locksAfter w.lclose n t, out := BusOut.respond .denied [] })

/-! Memory: grants, answers, freezes and sweeps. -/

/-- THE ARBITER. Each requester asks as R98, R125 and R136 say. A grant goes to the requester whose turn it is (`State.turnOf`) and to no other:
none while the memory is busy; the requester settled on while the memory was free, so that requests reaching a free memory are granted in the order
they arrive; else a freeze read first, then a sweep burst whose wait count is 16, then the queue head, then a sweep burst (R128). A grant made is as
R98, R129 and R135 say: the sweep wait count, 0–16, rises at a grant of the queue head if the Sweep Engine was asking at the grant's moment
(`State.asksBeside`: when the turn was settled), and returns to zero at a burst. A grant row that is not the turn's changes nothing (log 1); the
turn is settled when the memory becomes free or a request arrives (R128; the form: the model's choice, log 19). A sweep starts on the head of the
sweep queue once its drain count is zero, with no sweep under way and no burst in flight, and not before (R136). -/
def Obligations.GrantsAndSweepStarts : Prop :=
  (∀ s : State,
      (s.asks .freezeReader = true ↔
        ∃ f, s.cc.freeze = some f ∧ (s.slot f.slot).drainCount = 0 ∧ f.returned < 3 ∧
          s.mp.op.any MemOp.isFreezeRead = false) ∧
      (s.asks .memoryQueue = true ↔ s.mp.queue ≠ []) ∧
      (s.asks .sweepEngine = true ↔
        ∃ w, s.sw.sweep = some w ∧ w.stopped = false ∧ w.done < (s.slot w.slot).limit * 64 ∧
          s.mp.op.any MemOp.isSweepBurst = false) ∧
      ∀ r : Requester, (s.arbitrate.mp.due = some r ↔ s.turnOf r) ∧
        (s.arbitrate.mp.besideSweep = true ↔ (∃ x, s.turnOf x) ∧ s.asksBeside) ∧
        s.arbitrate =
          { s with mp := { s.mp with due := s.arbitrate.mp.due, besideSweep := s.arbitrate.mp.besideSweep } }) ∧
    (∀ s : State, s.pins.resetLow = false →
      (s.turnOf .freezeReader → ∀ f, s.cc.freeze = some f →
        exec .freezeReadGrant s = .next
          { s with
            mp :=
              { s.mp with
                op := some (.freezeRead f.slot (f.returned + 1)
                  ((s.slot f.slot).base * 4096 + [0x080, 0x0C0, 0x100].getD f.returned 0) false)
                due := none
                besideSweep := false }
            out := BusOut.quiet }) ∧
      (∀ count, s.turnOf .memoryQueue →
        s.asksBeside ∧ count = min 16 (s.mp.sweepWait + 1) ∨ ¬s.asksBeside ∧ count = s.mp.sweepWait →
        exec .queueHeadGrant s = .next
          { s with
            mp :=
              { s.mp with
                op := some .queueHead
                sweepWait := count
                due := none
                besideSweep := false }
            out := BusOut.quiet }) ∧
      (s.turnOf .sweepEngine → ∀ w, s.sw.sweep = some w →
        exec .sweepBurstGrant s = .next
          { s with
            mp :=
              { s.mp with
                op := some (.sweepBurst w.slot w.done ((s.slot w.slot).base * 4096 + 64 * w.done) false)
                sweepWait := 0
                due := none
                besideSweep := false }
            out := BusOut.quiet }) ∧
      ∀ c : Requester × Instr,
        c ∈ [(.freezeReader, .freezeReadGrant), (.memoryQueue, .queueHeadGrant), (.sweepEngine, .sweepBurstGrant)] →
        ¬s.turnOf c.1 → exec c.2 s = .next { s with out := BusOut.quiet }) ∧
    (∀ (s : State) (n : Slot) (rest : List Slot), s.pins.resetLow = false → s.sw.sweep = none → s.sw.queue = n :: rest →
      (s.slot n).drainCount = 0 → s.mp.op.any MemOp.isSweepBurst = false →
      exec .sweepStart s = .next
        (State.arbitrate
          { s with sw := { s.sw with sweep := some { slot := n, done := 0, stopped := false } }, out := BusOut.quiet })) ∧
    ∀ s : State, s.pins.resetLow = false →
      (s.sw.sweep ≠ none ∨ s.mp.op.any MemOp.isSweepBurst = true ∨ ∀ n, s.sw.queue.head? = some n → (s.slot n).drainCount ≠ 0) →
      exec .sweepStart s = .next { s with out := BusOut.quiet }

/-- Memory's done to a queued read answers the agent ACCEPTED with the data, live status over the first 16 bytes of a status-block read; the
entry leaves the queue, its slot's drain count falls, and a PUNCH read of 11Fh or a PRINTER read of 16Fh of a FROZEN slot sets its flag
(R14, R39, R62, R104, R105, R126, R127, R184). That the live status is the one this event leaves, its own completions taken, is the model's reading
(log 12). -/
def Obligations.QueuedReadsAnswered : Prop :=
  ∀ (s : State) (e : QEntry) (rest : List QEntry) (t : State), s.pins.resetLow = false →
    s.mp.op = some .queueHead → s.mp.queue = e :: rest → e.wr = false → s.inMemory e.pa e.size = true →
    t =
      { s with
        slots := s.slots.set e.slot.val
          { s.slot e.slot with
            drainCount := (s.slot e.slot).drainCount - 1
            punch := (s.slot e.slot).punch ||
              decide (e.role = .punch ∧ e.offset ≤ 0x11F ∧ 0x11F < e.offset + e.size ∧ (s.slot e.slot).stage = .frozen)
            print := (s.slot e.slot).print ||
              decide (e.role = .printer ∧ e.offset ≤ 0x16F ∧ 0x16F < e.offset + e.size ∧
                (s.slot e.slot).stage = .frozen) }
        mp := { s.mp with queue := rest, op := none }
        out := BusOut.quiet } →
    exec .queuedReadDone s = .next (State.arbitrate
      { t with
        out := BusOut.respondQueued .accepted e.tag
          (if e.overlay then t.statusBytes e.slot ++ (s.mem.readBytes e.pa e.size).drop 16
           else s.mem.readBytes e.pa e.size) })

/-- Memory's done to a queued write puts its bytes in memory, each at its address, and changes no other byte; the entry leaves the queue and
its slot's drain count falls (R6, R62, R126, R127). -/
def Obligations.QueuedWritesLand : Prop :=
  ∀ (s : State) (e : QEntry) (rest : List QEntry), s.pins.resetLow = false → s.mem.wf →
    s.mp.op = some .queueHead → s.mp.queue = e :: rest → e.wr = true → s.inMemory e.pa e.data.length = true →
    ∃ mem,
      (∀ x : Nat, Memory.read mem x =
        if e.pa ≤ x ∧ x < e.pa + e.data.length then e.data.getD (x - e.pa) 0#8 else s.mem.read x) ∧
      exec .queuedWriteDone s = .next (State.arbitrate
        { s with
          slots := s.slots.set e.slot.val { s.slot e.slot with drainCount := (s.slot e.slot).drainCount - 1 }
          mp := { s.mp with queue := rest, op := none }
          mem := mem
          out := BusOut.quiet })

/-- Memory's error to a queue entry hands over a MEMORY READ or WRITE report against the slot in its present stage; a read is answered
DENIED with zeros; the bytes of a write are left free and no other byte changes; the entry leaves the queue and its slot's drain count falls
(R62, R126, R127, R130, R131). -/
def Obligations.QueuedErrorsReported : Prop :=
  ∀ (s : State) (e : QEntry) (rest : List QEntry) (rep : Report), s.pins.resetLow = false → s.mem.wf →
    s.mp.op = some .queueHead → s.mp.queue = e :: rest →
    rep =
      { kind := .memory
        slot := e.slot
        agent := some e.tag
        stage := (s.slot e.slot).stage
        detail := if e.wr then .memoryWrite else .memoryRead
        offset := some e.offset
        valueA := BitVec.ofNat 16 (e.pa / 4096)
        valueB := BitVec.ofNat 16 (e.role.code * 256 + if e.wr then 1 else 0)
        readback := none } →
    (e.wr = false →
      exec .queuedReadError s = .next (State.arbitrate
        { s with
          slots := s.slots.set e.slot.val { s.slot e.slot with drainCount := (s.slot e.slot).drainCount - 1 }
          mp := { s.mp with queue := rest, op := none }
          fu := s.fu.push rep
          out := BusOut.respondQueued .denied e.tag (List.replicate e.size 0#8) })) ∧
    (e.wr = true →
      ∃ mem free,
        (∀ x : Nat, ¬(e.pa ≤ x ∧ x < e.pa + e.data.length) → Memory.read mem x = s.mem.read x) ∧
        exec .queuedWriteError s = .next (State.arbitrate
          { s with
            slots := s.slots.set e.slot.val { s.slot e.slot with drainCount := (s.slot e.slot).drainCount - 1 }
            mp := { s.mp with queue := rest, op := none }
            fu := s.fu.push rep
            mem := mem
            freeCount := free
            out := BusOut.quiet }))

/-- A returned freeze read enters its bytes into the freeze accumulator; the third stores it as the frozen CRC, takes the slot off the list
and moves it to FROZEN in one event (R47, R98, R99, R100). A freeze read answered with error abandons the freeze, takes its slot off the
list with its stage and frozen CRC unchanged, and hands over a MEMORY FREEZE report (R102, R132). -/
def Obligations.FreezeReadsAnswered : Prop :=
  (∀ (s : State) (f : Freeze) (n : Slot) (k pa : Nat) (crc : Word), s.pins.resetLow = false →
      s.mp.op = some (.freezeRead n k pa false) → s.cc.freeze = some f →
      s.inMemory pa (if k = 3 then 32 else 64) = true →
      crc = crcBytes f.acc (s.mem.readBytes pa (if k = 3 then 32 else 64)) →
      (f.returned < 2 →
        exec .freezeReadReturn s = .next (State.arbitrate
          { s with
            cc := { s.cc with freeze := some { slot := f.slot, returned := f.returned + 1, acc := crc } }
            mp := { s.mp with op := none }
            out := BusOut.quiet })) ∧
      (f.returned = 2 →
        exec .freezeReadReturn s = .next (State.arbitrate
          { s with
            slots := s.slots.set f.slot.val { s.handedTo f.slot .frozen with frozenCrc := crc }
            acc := s.locksOff f.slot
            cc :=
              { s.cc with
                freezeList := s.cc.freezeList.filter fun m => m != f.slot
                freeze := nextFreeze (s.cc.freezeList.filter fun m => m != f.slot) none none }
            mp := { s.mp with op := none }
            out := BusOut.quiet }))) ∧
    (∀ (s : State) (f : Freeze) (n : Slot) (k pa : Nat), s.pins.resetLow = false →
      s.mp.op = some (.freezeRead n k pa false) → s.cc.freeze = some f → k = 1 ∨ k = 2 ∨ k = 3 →
      exec .freezeReadError s = .next (State.arbitrate
        { s with
          cc :=
            { s.cc with
              freezeList := s.cc.freezeList.filter fun m => m != f.slot
              freeze := nextFreeze (s.cc.freezeList.filter fun m => m != f.slot) none none }
          mp := { s.mp with op := none }
          fu := s.fu.push
            { kind := .memory, slot := f.slot, agent := none, stage := (s.slot f.slot).stage, detail := .memoryFreeze
              offset := some (if k = 1 then 0x080 else if k = 2 then 0x0C0 else 0x100)
              valueA := BitVec.ofNat 16 (pa / 4096), valueB := BitVec.ofNat 16 k, readback := none }
          out := BusOut.quiet }))

/-- The answers to operations of an abandoned freeze or sweep are discarded: no report, no CRC, no count. A burst's zeros land if it was
done, and its bytes are left free if it was not (R101, R103, R138). -/
def Obligations.AbandonedAnswersDiscarded : Prop :=
  ∀ (s : State) (n : Slot) (k pa : Nat), s.pins.resetLow = false →
    (s.mp.op = some (.freezeRead n k pa true) →
      ∀ c ∈ [Instr.freezeReadReturn, .freezeReadError],
        exec c s = .next (State.arbitrate
          { s with
            cc := { s.cc with freeze := nextFreeze s.cc.freezeList s.cc.freeze none }
            mp := { s.mp with op := none }
            out := BusOut.quiet })) ∧
    (s.mem.wf → s.inMemory pa 64 = true → s.mp.op = some (.sweepBurst n k pa true) →
      (∃ mem,
        (∀ x : Nat, Memory.read mem x = if pa ≤ x ∧ x < pa + 64 then 0#8 else s.mem.read x) ∧
        exec .sweepBurstDone s = .next (State.arbitrate { s with mp := { s.mp with op := none }, mem := mem, out := BusOut.quiet })) ∧
      ∃ mem free,
        (∀ x : Nat, ¬(pa ≤ x ∧ x < pa + 64) → Memory.read mem x = s.mem.read x) ∧
        exec .sweepBurstError s = .next (State.arbitrate
          { s with mp := { s.mp with op := none }, mem := mem, freeCount := free, out := BusOut.quiet }))

/-- A burst answered done writes 64 zero bytes and no other byte, and counts; the last one moves the slot from SWEEPING to VACANT, off the
sweep queue, with SWEEP DONE latched (R17, R47, R96, R135, R136, R137, R162). A burst of the current sweep answered with error stops the
sweep, which stays at the head of the queue, and hands over a MEMORY SWEEP report; the burst's bytes are left free and no other byte changes
(R133). -/
def Obligations.SweepBurstsAnswered : Prop :=
  (∀ (s : State) (w : Sweep) (n : Slot) (k pa : Nat), s.pins.resetLow = false → s.mem.wf →
      s.mp.op = some (.sweepBurst n k pa false) → s.sw.sweep = some w → s.inMemory pa 64 = true →
      ∃ mem,
        (∀ x : Nat, Memory.read mem x = if pa ≤ x ∧ x < pa + 64 then 0#8 else s.mem.read x) ∧
        (w.done + 1 < (s.slot w.slot).limit * 64 →
          exec .sweepBurstDone s = .next (State.arbitrate
            { s with
              mp := { s.mp with op := none }
              sw := { s.sw with sweep := some { w with done := w.done + 1 } }
              mem := mem
              out := BusOut.quiet })) ∧
        (w.done + 1 = (s.slot w.slot).limit * 64 →
          exec .sweepBurstDone s = .next (State.arbitrate
            { s with
              slots := s.slots.set w.slot.val (s.slot w.slot).emptied
              acc := s.locksOff w.slot
              mp := { s.mp with op := none }
              sw := { queue := s.sw.queue.filter fun m => m != w.slot, sweep := none }
              fu := { s.fu with latches := s.fu.latches.set 6 true }
              mi := { s.mi with sending := s.mi.sending.map fun x => x.latchedAgain .sweepDone }
              mem := mem
              out := BusOut.quiet }))) ∧
    (∀ (s : State) (w : Sweep) (n : Slot) (k pa : Nat), s.pins.resetLow = false → s.mem.wf →
      s.mp.op = some (.sweepBurst n k pa false) → s.sw.sweep = some w →
      ∃ mem free,
        (∀ x : Nat, ¬(pa ≤ x ∧ x < pa + 64) → Memory.read mem x = s.mem.read x) ∧
        exec .sweepBurstError s = .next (State.arbitrate
          { s with
            mp := { s.mp with op := none }
            sw := { s.sw with sweep := some { w with stopped := true } }
            fu := s.fu.push
              { kind := .memory, slot := w.slot, agent := none, stage := .sweeping, detail := .memorySweep
                offset := some (64 * k), valueA := BitVec.ofNat 16 (pa / 4096), valueB := BitVec.ofNat 16 k
                readback := none }
            mem := mem
            freeCount := free
            out := BusOut.quiet }))

/-- The check value of R100: the register starts at FFFFh, each byte enters most significant bit first with generator 1021h, and the nine
characters "123456789" give 29B1h. -/
def Obligations.CardCheckCrc : Prop :=
  (∀ (reg : Word) (bit : Bool),
      crcBit reg bit = if reg.getLsbD 15 = bit then reg <<< 1 else (reg <<< 1) ^^^ 0x1021#16) ∧
    (∀ (reg : Word) (b : Byte),
      crcByte reg b =
        crcBit (crcBit (crcBit (crcBit (crcBit (crcBit (crcBit (crcBit reg (b.getLsbD 7)) (b.getLsbD 6))
          (b.getLsbD 5)) (b.getLsbD 4)) (b.getLsbD 3)) (b.getLsbD 2)) (b.getLsbD 1)) (b.getLsbD 0)) ∧
    (∀ reg : Word, crcBytes reg [] = reg) ∧
    (∀ (reg : Word) (b : Byte) (rest : List Byte), crcBytes reg (b :: rest) = crcBytes (crcByte reg b) rest) ∧
    crcBytes 0xFFFF#16 [0x31#8, 0x32#8, 0x33#8, 0x34#8, 0x35#8, 0x36#8, 0x37#8, 0x38#8, 0x39#8] = 0x29B1#16

/-! Timers and faults. -/

/-- The expiry of a guard or retry timer whose last tick has come stops it and changes nothing else: the guard lasts while the drain count is above
zero (R63, R114). The expiry of a lock's timer whose last tick has come removes the lock and hands over a LOCK EXPIRED report with the fields of
R122. The row of a timer that has ticks left, or does not run, changes nothing (R185). A timer's expiry as an event of its own after its last tick
is the model's choice (log 3). -/
def Obligations.TimerExpiries : Prop :=
  (∀ (s : State) (n : Slot), s.pins.resetLow = false →
      ((s.slot n).guardTimer = some 0 →
        exec (.guardTimerExpiry n) s = .next
          { s with slots := s.slots.set n.val { s.slot n with guardTimer := none }, out := BusOut.quiet }) ∧
      ((s.slot n).retryTimer = some 0 →
        exec (.retryTimerExpiry n) s = .next
          { s with slots := s.slots.set n.val { s.slot n with retryTimer := none }, out := BusOut.quiet }) ∧
      ((s.slot n).guardTimer ≠ some 0 → exec (.guardTimerExpiry n) s = .next { s with out := BusOut.quiet }) ∧
      ((s.slot n).retryTimer ≠ some 0 → exec (.retryTimerExpiry n) s = .next { s with out := BusOut.quiet }) ∧
      ∀ t, (s.slot n).guardTimer = some 0 → exec (.guardTimerExpiry n) s = .next t →
        (t.slot n).guardActive = decide (0 < (s.slot n).drainCount)) ∧
    (∀ (s : State) (l : Lock), s.pins.resetLow = false → s.acc.locks.find? (fun x => x.slot == l.slot) = some l →
      l.ticks = 0 →
      exec (.lockTimerExpiry l.slot) s = .next
        { s with
          acc := s.locksOff l.slot
          fu := s.fu.push
            { kind := .lock, slot := l.slot, agent := some l.tag, stage := (s.slot l.slot).stage, detail := .lockExpired
              offset := some l.offset, valueA := BitVec.ofNat 16 l.timeout
              valueB := BitVec.ofNat 16 ((s.role l.tag).code * 256), readback := none }
          out := BusOut.quiet }) ∧
    ∀ (s : State) (n : Slot), s.pins.resetLow = false → (∀ l ∈ s.acc.locks, l.slot = n → l.ticks ≠ 0) →
      exec (.lockTimerExpiry n) s = .next { s with out := BusOut.quiet }

/-- The oldest SEQUENCE fault is taken against the stage the slot has reached: RETRY or HOLD in FROZEN, ALREADY HELD in HELD, and in any other stage
nothing but the report with the programmed response (R111, R112, R113, R115, R116). That a retry with a delay of 0 leaves no timer running (log 15),
and that the report is handed over at the taking, behind those handed over before (log 13), is the model's reading. -/
def Obligations.SequenceFaultsTaken : Prop :=
  ∀ (s : State) (f : SeqFault) (rest : List SeqFault) (r : SlotRec) (o : ReadbackOutcome), s.pins.resetLow = false →
    s.cc.seqFaults = f :: rest →
    ((s.slot f.slot).stage = .held ∧ o = .foundHeld ∧ r = s.slot f.slot ∨
      (s.slot f.slot).stage = .frozen ∧ s.programmed .readback = .hold ∧ o = .holdProgrammed ∧ r = s.slot f.slot ∨
      (s.slot f.slot).stage = .frozen ∧ s.programmed .readback = .retry ∧
        (s.slot f.slot).retryCount < s.su.timing.retryLimit.toNat ∧ o = .retried ∧
        r = { s.slot f.slot with
              runCrc := 0xFFFF#16
              rbPtr := 0x170
              retryCount := (s.slot f.slot).retryCount + 1
              retryTimer :=
                if s.su.timing.retryDelay = 0#16 then none else some (1000 * s.su.timing.retryDelay.toNat + 1) } ∨
      (s.slot f.slot).stage = .frozen ∧ s.programmed .readback = .retry ∧
        (s.slot f.slot).retryCount = s.su.timing.retryLimit.toNat ∧
        o = .exhausted ((s.slot f.slot).retryCount + 1) ∧
        r = { s.slot f.slot with retryCount := (s.slot f.slot).retryCount + 1 } ∨
      (s.slot f.slot).stage = .frozen ∧ s.programmed .readback = .retry ∧
        s.su.timing.retryLimit.toNat < (s.slot f.slot).retryCount ∧ o = .exhausted (s.slot f.slot).retryCount ∧
        r = s.slot f.slot ∨
      (s.slot f.slot).stage ≠ .held ∧ (s.slot f.slot).stage ≠ .frozen ∧ o = .outOfFrozen (s.programmed .readback) ∧
        r = s.slot f.slot) →
    exec .readbackSequenceTaken s = .next
      { s with
        slots := s.slots.set f.slot.val r
        cc := { s.cc with seqFaults := rest }
        fu := s.fu.push
          { kind := .readback, slot := f.slot, agent := some f.tag, stage := .frozen, detail := .readbackSequence
            offset := some f.offset, valueA := BitVec.ofNat 16 f.pointer, valueB := BitVec.ofNat 16 f.size
            readback := some o }
        out := BusOut.quiet }

/-- A report whose response is HOLD or BLOCK, or that of an exhausted or HOLD-programmed read-back, taken against a slot in a holdable stage holds
it: the slot enters HELD from that stage and leaves the list its stage gave it a place in, its freeze or sweep abandoned; the record, the last fault
fields, the bridge state and the causes follow (R47, R54, R113, R115, R141, R146, R147, R150, R151, R156, R157, R158). -/
def Obligations.FaultReportsThatHold : Prop :=
  ∀ (s : State) (r : Report) (rest : List Report) (applied : Applied) (detail : FaultDetail) (b : Word)
    (causes : List Cause) (latches : Vector Bool 7), s.pins.resetLow = false → s.fu.reports = r :: rest →
    (s.slot r.slot).stage ∈ [Stage.scanning, .decoding, .composing, .freezing, .frozen, .verified, .sweeping] →
    (r.readback = none ∧ s.programmed r.kind = .hold ∧ applied = .hold ∧ detail = r.detail ∧ b = r.valueB ∨
      r.readback = none ∧ s.programmed r.kind = .block ∧ applied = .block ∧ detail = r.detail ∧ b = r.valueB ∨
      r.readback = some .holdProgrammed ∧ applied = .hold ∧ detail = r.detail ∧ b = r.valueB ∨
      ∃ k, r.readback = some (.exhausted k) ∧ applied = .hold ∧ detail = .readbackExhausted ∧
        b = BitVec.ofNat 16 (r.detail.code * 256 + k)) →
    causes =
      .slotHeld :: (if applied = .block ∧ s.fu.bridge = .guarding then [Cause.blockEntered] else []) ++ s.fu.besides r →
    s.fu.latchesWith causes latches →
    exec .faultReportTaken s = .next (State.arbitrate
      { s with
        slots := s.slots.set r.slot.val
          { s.slot r.slot with
            stage := .held
            heldFrom := some (s.slot r.slot).stage
            guardTimer := none
            drainCount := 0
            retryTimer := if (s.slot r.slot).stage = .frozen then none else (s.slot r.slot).retryTimer
            lastFault := s.fu.lastFaultAfter r (s.slot r.slot).lastFault }
        acc := s.locksOff r.slot
        su :=
          { s.su with
            verified :=
              if (s.slot r.slot).stage = .verified then s.su.verified.filter fun m => m != r.slot else s.su.verified }
        cc := if (s.slot r.slot).stage = .freezing then s.cc.without r.slot s.mp.op else s.cc
        mp :=
          if (s.slot r.slot).stage = .freezing then s.mp.withoutFreeze s.cc r.slot
          else if (s.slot r.slot).stage = .sweeping then s.mp.withoutSweep s.sw r.slot
          else s.mp
        sw := if (s.slot r.slot).stage = .sweeping then s.sw.without r.slot else s.sw
        fu := s.fu.taken rest (s.fu.recordFor r applied detail b) (applied == .block) latches
        mi := { s.mi with sending := s.mi.sending.map fun x => x.afterLatching causes }
        out := BusOut.quiet })

/-- A report that holds no slot: SILENT or REPORT, RETRY and the out-of-FROZEN outcome of a read-back, a hold or block against a VACANT or LOADED
slot, and any report against a slot in HELD, recorded ALREADY HELD. A reported INDEX or VOID fault also sets the match state to UNWRITTEN and
closing-seen (R77, R113, R141, R144, R145, R146, R148, R149, R150, R151, R156, R157, R158; the slot found HELD by the Card Check Unit: log 14). -/
def Obligations.FaultReportsThatHoldNoSlot : Prop :=
  ∀ (s : State) (r : Report) (rest : List Report) (st : Stage) (applied : Applied) (blocks : Bool)
    (causes : List Cause) (latches : Vector Bool 7), s.pins.resetLow = false → s.fu.reports = r :: rest →
    st = (s.slot r.slot).stage →
    (st = .held ∧ applied = .alreadyHeld ∧
        blocks = (decide (r.readback = none) && decide (s.programmed r.kind = .block)) ∨
      st ≠ .held ∧ r.readback = none ∧ s.programmed r.kind = .silent ∧ applied = .silent ∧ blocks = false ∨
      st ≠ .held ∧ r.readback = none ∧ s.programmed r.kind = .report ∧ applied = .report ∧ blocks = false ∨
      (st = .vacant ∨ st = .loaded) ∧ r.readback = none ∧ s.programmed r.kind = .hold ∧ applied = .report ∧
        blocks = false ∨
      (st = .vacant ∨ st = .loaded) ∧ r.readback = none ∧ s.programmed r.kind = .block ∧ applied = .block ∧
        blocks = true ∨
      (st = .vacant ∨ st = .loaded) ∧ (r.readback = some .holdProgrammed ∨ ∃ k, r.readback = some (.exhausted k)) ∧
        applied = .report ∧ blocks = false ∨
      st ≠ .held ∧ r.readback = some .retried ∧ applied = .retry ∧ blocks = false ∨
      st ≠ .held ∧ r.readback = some (.outOfFrozen .retry) ∧ applied = .retry ∧ blocks = false ∨
      st ≠ .held ∧ r.readback = some (.outOfFrozen .hold) ∧ applied = .hold ∧ blocks = false ∨
      st ≠ .held ∧ r.readback = some .foundHeld ∧ applied = .alreadyHeld ∧ blocks = false) →
    causes =
      (if applied = .silent ∨ applied = .alreadyHeld then [] else [Cause.faultReported]) ++
        (if blocks = true ∧ s.fu.bridge = .guarding then [Cause.blockEntered] else []) ++ s.fu.besides r →
    s.fu.latchesWith causes latches →
    exec .faultReportTaken s = .next
      { s with
        slots := s.slots.set r.slot.val
          { s.slot r.slot with
            keys :=
              if applied = .report ∧ (r.kind = .index ∨ r.kind = .void) then Vector.replicate 22 .unwritten
              else (s.slot r.slot).keys
            closingSeen :=
              if applied = .report ∧ (r.kind = .index ∨ r.kind = .void) then true else (s.slot r.slot).closingSeen
            lastFault := s.fu.lastFaultAfter r (s.slot r.slot).lastFault }
        fu :=
          s.fu.taken rest
            (s.fu.recordFor r applied
              (match r.readback with | some (.exhausted _) => .readbackExhausted | _ => r.detail)
              (match r.readback with
                | some (.exhausted k) => BitVec.ofNat 16 (r.detail.code * 256 + k)
                | _ => r.valueB))
            blocks latches
        mi := { s.mi with sending := s.mi.sending.map fun x => x.afterLatching causes }
        out := BusOut.quiet }

/-! The management line. -/

/-- The address byte, the item byte and the end of a transaction: the bridge's own address, 34h plus the ADR code, is acknowledged and any other is
ignored; an item byte 00h–06h becomes the item pointer, another is not acknowledged and leaves it; every half word is discarded
(R167, R168, R172). That the item byte is acknowledged whatever the line was doing is the model's choice: its row stands for the START, the address byte
and the item byte (log 5). -/
def Obligations.TransactionsOnTheLine : Prop :=
  ∀ s : State, s.pins.resetLow = false →
    (∀ address : BitVec 7, address.toNat = 0x34 + s.pins.adr.toNat →
      exec (.targetAddressByte address .writes) s = .next
        { s with
          mi :=
            { s.mi with line := .awaitItem, bytePos := 0, partialByte := none, sending := none, out := [], acked := true }
          out := BusOut.quiet } ∧
      exec (.targetAddressByte address .reads) s = .next
        { s with
          mi :=
            { s.mi with line := .reading, bytePos := 0, partialByte := none, sending := none, out := [], acked := true }
          out := BusOut.quiet }) ∧
    (∀ (address : BitVec 7) (x : LineStart), address.toNat ≠ 0x34 + s.pins.adr.toNat → x ≠ .firstByte →
      exec (.targetAddressByte address x) s = .next
        { s with
          mi :=
            { s.mi with line := .ignoring, bytePos := 0, partialByte := none, sending := none, out := [], acked := false }
          out := BusOut.quiet }) ∧
    (∀ (b : Byte) (i : Item),
      [Item.portalControl, .portalData, .portalStatus, .alertCause, .alertEnable, .bridgeStatus, .command][b.toNat]? = some i →
      exec (.itemByte b) s = .next
        { s with
          mi :=
            { s.mi with
              line := .writing, item := i, bytePos := 0, partialByte := none, sending := none, out := [], acked := true }
          out := BusOut.quiet }) ∧
    (∀ b : Byte, 7 ≤ b.toNat →
      exec (.itemByte b) s = .next
        { s with
          mi :=
            { s.mi with line := .refusing, bytePos := 0, partialByte := none, sending := none, out := [], acked := false }
          out := BusOut.quiet }) ∧
    exec .transactionEnd s = .next
      { s with
        mi := { s.mi with line := .idle, bytePos := 0, partialByte := none, sending := none, out := [] }
        out := BusOut.quiet }

/-- The bytes of the items whose reading changes nothing: PORTAL CONTROL, PORTAL STATUS, ALERT ENABLE, the eight bytes of BRIDGE STATUS, and COMMAND
as 0000h; they are chosen together when the first of them begins to be sent, once in a read transaction, with no other effect (R12, R170, R171; that
the row TARGET_ADDRESS_BYTE carries this moment is the model's choice, log 6). -/
def Obligations.ItemsShowTheirBytes : Prop :=
  (∀ (s : State) (address : BitVec 7), s.pins.resetLow = false → address.toNat = 0x34 + s.pins.adr.toNat →
      s.mi.line = .reading → s.mi.out = [] →
      ∃ bytes,
        exec (.targetAddressByte address .firstByte) s = .next { s with mi := { s.mi with out := bytes }, out := BusOut.quiet } ∧
        (s.mi.item = .portalControl → bytes = [BitVec.ofNat 8 s.mi.table.val, BitVec.ofNat 8 s.mi.mode.code]) ∧
        (s.mi.item = .portalStatus → bytes = [0#8, BitVec.ofNat 8 s.mi.status.code]) ∧
        (s.mi.item = .alertEnable →
          ∃ e : Byte, bytes = [0#8, e] ∧ e.getLsbD 7 = false ∧
            ∀ c : Cause, e.getLsbD c.place.val = s.fu.enables[c.place.val]) ∧
        (s.mi.item = .bridgeStatus →
          bytes =
            [if s.fu.bridge = .blocked then 1#8 else 0#8,
             BitVec.ofNat 8 (s.pins.msize.toNat + 4 * s.pins.adr.toNat),
             BitVec.ofNat 8 s.fu.log.length,
             if s.fu.overflow then 1#8 else 0#8,
             BitVec.ofNat 8 s.su.verified.length,
             BitVec.ofNat 8 s.sw.queue.length,
             BitVec.ofNat 8 ((List.finRange 64).countP fun n => (s.slot n).stage == .held),
             BitVec.ofNat 8 ((List.finRange 64).countP fun n => (s.slot n).stage != .vacant)]) ∧
        (s.mi.item = .command → bytes = [0#8, 0#8]) ∧
        (s.mi.item = .portalData ∨ s.mi.item = .alertCause → bytes = [])) ∧
    ∀ (s : State) (address : BitVec 7), s.pins.resetLow = false →
      address.toNat ≠ 0x34 + s.pins.adr.toNat ∨ s.mi.line ≠ .reading ∨ s.mi.out ≠ [] →
      exec (.targetAddressByte address .firstByte) s = .next { s with out := BusOut.quiet }

/-- A written word acts when its second byte has been received: the first byte alone is held as the partial word and changes nothing else, for every
item and every portal word; the second completes the word, high byte first; a byte past an item's width is not acknowledged and changes nothing else
(R163, R169, R172, R182). -/
def Obligations.HalfWordsChangeNothing : Prop :=
  (∀ (m : Management) (i : Item), m.line = .writing → m.item = i →
      (∀ b, m.partialByte = none → i = .portalData ∨ m.bytePos = 0 →
        m.intake i (.highByte b) = ({ m with bytePos := m.bytePos + 1, partialByte := some b, acked := true }, none)) ∧
      (∀ h b, m.partialByte = some h →
        m.intake i (.lowByte b) =
          ({ m with bytePos := m.bytePos + 1, partialByte := none, acked := true },
           some (BitVec.ofNat 16 (h.toNat * 256 + b.toNat)))) ∧
      (∀ v, m.partialByte = none → i = .portalData ∨ m.bytePos = 0 →
        m.intake i (.word v) = ({ m with bytePos := m.bytePos + 2, acked := true }, some v)) ∧
      ∀ b v, m.partialByte = none → i ≠ .portalData → m.bytePos ≠ 0 →
        m.intake i (.highByte b) = ({ m with acked := false }, none) ∧
          m.intake i (.word v) = ({ m with acked := false }, none)) ∧
    ∀ (s : State) (w : WordIn) (m : Management), s.pins.resetLow = false →
      (s.mi.intake .portalControl w = (m, none) →
        exec (.portalControl w) s = .next { s with mi := m, out := BusOut.quiet }) ∧
      (s.mi.intake .alertEnable w = (m, none) →
        exec (.alertEnable w) s = .next { s with mi := m, out := BusOut.quiet }) ∧
      (s.mi.intake .command w = (m, none) →
        ∀ c ∈ [Instr.block w, .unblock w, .custodyReset w, .clearLog w],
          exec c s = .next { s with mi := m, out := BusOut.quiet }) ∧
      (s.mi.intake .portalData w = (m, none) →
        ∀ c ∈
          [(PortalWrite.address, Instr.portalAddressWrite w), (.descriptor, .descriptorWrite w), (.load, .load w),
           (.role, .agentRoleWrite w), (.response, .faultResponseWrite w), (.timing, .timingWrite w),
           (.refused, .readOnly (.portalWord w))],
          s.mi.portalWrite = c.1 → exec c.2 s = .next { s with mi := m, out := BusOut.quiet })

/-- PORTAL CONTROL: a completed word with a high byte 00h–07h and a low byte 00h–03h sets table and mode, with PORTAL STATUS OK and the address kept;
any other is refused with REFUSED-RANGE; and a data word, written or read, at an address that a change of table has left beyond the table is refused
with REFUSED-ADDRESS (R173, R174). Which row a read word belongs to, and that a written word beyond the table is READ_ONLY's event, is the model's
choice (log 18). -/
def Obligations.PortalControlSelects : Prop :=
  ∀ (s : State) (w : WordIn) (m : Management) (v : Word), s.pins.resetLow = false →
    (s.mi.intake .portalControl w = (m, some v) →
      (∀ (t : Fin 8) (mode : PortalMode),
        v.toNat = t.val * 256 + [PortalMode.address, .data, .dataStep, .dataStepWrite].idxOf mode →
        exec (.portalControl w) s = .next
          { s with mi := { m with table := t, mode := mode, status := .ok, addr := s.mi.addr }, out := BusOut.quiet }) ∧
      (8 ≤ v.toNat / 256 ∨ 4 ≤ v.toNat % 256 →
        exec (.portalControl w) s = .next
          { s with
            mi := { m with table := s.mi.table, mode := s.mi.mode, status := .refusedRange, addr := s.mi.addr }
            out := BusOut.quiet })) ∧
    (s.mi.intake .portalData w = (m, some v) → s.mi.mode ≠ .address → portalSize s.mi.table ≤ s.mi.addr →
      exec (.readOnly (.portalWord w)) s = .next
        { s with mi := { m with status := .refusedAddress }, out := BusOut.quiet }) ∧
    ∀ (read : ReadPart → Instr) (x : Sending),
      (read = .portalDataRead ∧ s.mi.table ≠ 5 ∧ s.mi.table ≠ 6 ∧ x = .portalWord ∨
        read = .custodyLogRead ∧ s.mi.table = 5 ∧ (∃ found, x = .logWord found) ∨
        read = .verifiedQueueRead ∧ s.mi.table = 6 ∧ ∃ head gone, x = .verifiedWord head gone) →
      s.mi.mode ≠ .address → portalSize s.mi.table ≤ s.mi.addr → s.mi.sending = some x →
      exec (read .sent) s = .next
        { s with
          mi := { s.mi with status := .refusedAddress, sending := none, bytePos := s.mi.bytePos + 2 }
          out := BusOut.quiet }

/-- PORTAL DATA in ADDRESS mode sets an address that lies in the table and refuses another; a write to a read-only table word is refused with READ-ONLY;
and a data byte to a read-only item, past an item's width, or after an item byte that was not acknowledged is not acknowledged
(R168, R169, R174, R175, R177). -/
def Obligations.AddressWritesAndRefusedWrites : Prop :=
  ∀ s : State, s.pins.resetLow = false →
    (∀ (w : WordIn) (m : Management) (v : Word), s.mi.intake .portalData w = (m, some v) →
      (s.mi.mode = .address → v.toNat < portalSize s.mi.table →
        exec (.portalAddressWrite w) s = .next
          { s with mi := { m with addr := v.toNat, status := .ok }, out := BusOut.quiet }) ∧
      (s.mi.mode = .address → portalSize s.mi.table ≤ v.toNat →
        exec (.portalAddressWrite w) s = .next
          { s with mi := { m with status := .refusedAddress }, out := BusOut.quiet }) ∧
      (s.mi.mode ≠ .address → s.mi.addr < portalSize s.mi.table →
        s.mi.table ∈ [(1 : Fin 8), 5, 6, 7] ∨ s.mi.table = 0 ∧ s.mi.addr % 16 = 15 →
        exec (.readOnly (.portalWord w)) s = .next
          { s with mi := { m with status := .readOnly }, out := BusOut.quiet })) ∧
    ∀ b : Byte,
      s.mi.line = .refusing ∨
        s.mi.line = .writing ∧
          (s.mi.item ∈ [Item.portalStatus, .alertCause, .bridgeStatus] ∨ s.mi.item ≠ .portalData ∧ 2 ≤ s.mi.bytePos) →
      exec (.readOnly (.dataByte b)) s = .next { s with mi := { s.mi with acked := false }, out := BusOut.quiet }

/-- A completed write to descriptor word 0–13: stored for a VACANT slot; stored with the return to VACANT for a LOADED one; refused with
REFUSED-STAGE in any other stage. A write to word 15 is refused with READ-ONLY (R3, R17, R47, R174, R177). -/
def Obligations.DescriptorWrites : Prop :=
  ∀ (s : State) (w : WordIn) (m : Management) (v : Word) (n : Slot), s.pins.resetLow = false →
    s.mi.intake .portalData w = (m, some v) → s.mi.mode ≠ .address → s.mi.table = 0 →
    (∀ k : Fin 14, s.mi.addr = n.val * 16 + k.val →
      ((s.slot n).stage = .vacant →
        exec (.descriptorWrite w) s = .next
          { s with
            slots := s.slots.set n.val { s.slot n with desc := (s.slot n).desc.set k.val v }
            mi := m.wrote
            out := BusOut.quiet }) ∧
      ((s.slot n).stage = .loaded →
        exec (.descriptorWrite w) s = .next
          { s with
            slots := s.slots.set n.val { (s.slot n).emptied with desc := (s.slot n).desc.set k.val v }
            acc := s.locksOff n
            mi := m.wrote
            out := BusOut.quiet }) ∧
      ((s.slot n).stage ≠ .vacant → (s.slot n).stage ≠ .loaded →
        exec (.descriptorWrite w) s = .next { s with mi := { m with status := .refusedStage }, out := BusOut.quiet })) ∧
    (s.mi.addr = n.val * 16 + 15 →
      exec (.readOnly (.portalWord w)) s = .next { s with mi := { m with status := .readOnly }, out := BusOut.quiet })

/-- LOAD: word 14 written with 0001h. Its three checks refuse in their order with REFUSED-STAGE, REFUSED-RANGE and REFUSED-OVERLAP; a VACANT slot that
passes moves to LOADED; a LOADED slot stays as it is; another value is refused with REFUSED-RANGE (R4, R5, R7, R47, R61, R174, R178). -/
def Obligations.Loads : Prop :=
  ∀ (s : State) (w : WordIn) (m : Management) (v : Word) (n : Slot), s.pins.resetLow = false → s.regionLaw →
    s.mi.intake .portalData w = (m, some v) → s.mi.mode ≠ .address → s.mi.table = 0 → s.mi.addr = n.val * 16 + 14 →
    (v ≠ 1#16 → exec (.load w) s = .next { s with mi := { m with status := .refusedRange }, out := BusOut.quiet }) ∧
    (v = 1#16 → (s.slot n).stage ≠ .vacant → (s.slot n).stage ≠ .loaded →
      exec (.load w) s = .next { s with mi := { m with status := .refusedStage }, out := BusOut.quiet }) ∧
    (v = 1#16 → (s.slot n).stage = .vacant → ¬(s.slot n).describes n →
      exec (.load w) s = .next { s with mi := { m with status := .refusedRange }, out := BusOut.quiet }) ∧
    (v = 1#16 → (s.slot n).stage = .vacant → (s.slot n).describes n → ¬s.regionFree n →
      exec (.load w) s = .next { s with mi := { m with status := .refusedOverlap }, out := BusOut.quiet }) ∧
    (v = 1#16 → (s.slot n).stage = .vacant → (s.slot n).describes n → s.regionFree n →
      exec (.load w) s = .next
        { s with
          slots := s.slots.set n.val (s.handedTo n .loaded)
          acc := s.locksOff n
          mi := m.wrote
          out := BusOut.quiet }) ∧
    (v = 1#16 → (s.slot n).stage = .loaded →
      exec (.load w) s = .next { s with mi := m.wrote, out := BusOut.quiet })

/-- Completed writes to the role, response and timing tables: a value the table admits is taken, another is refused with REFUSED-RANGE and leaves the
entry (R18, R19, R66, R142, R143, R174, R176, R180). -/
def Obligations.TableWrites : Prop :=
  ∀ (s : State) (w : WordIn) (m : Management) (v : Word), s.pins.resetLow = false →
    s.mi.intake .portalData w = (m, some v) → s.mi.mode ≠ .address → s.mi.addr < portalSize s.mi.table →
    (s.mi.table = 2 →
      (∀ r : Role, v.toNat = r.code →
        exec (.agentRoleWrite w) s = .next
          { s with
            acc := { s.acc with roles := s.acc.roles.setIfInBounds s.mi.addr r }
            mi := m.wrote
            out := BusOut.quiet }) ∧
      (7 ≤ v.toNat →
        exec (.agentRoleWrite w) s = .next { s with mi := { m with status := .refusedRange }, out := BusOut.quiet })) ∧
    (s.mi.table = 3 →
      (∀ r : Response, v.toNat = r.code →
        r ∈
          ([[.silent, .report, .block], [.silent, .report, .block], [.report, .hold, .block], [.report, .hold, .block],
            [.silent, .report, .hold], [.report, .hold], [.report, .hold], [.hold, .block], [.report, .hold],
            [.retry, .hold], [.silent, .report, .hold], [.hold, .block]] : List (List Response)).getD s.mi.addr [] →
        exec (.faultResponseWrite w) s = .next
          { s with
            fu := { s.fu with responses := s.fu.responses.setIfInBounds s.mi.addr r }
            mi := m.wrote
            out := BusOut.quiet }) ∧
      ((∀ r : Response, v.toNat = r.code →
          r ∉
            ([[.silent, .report, .block], [.silent, .report, .block], [.report, .hold, .block], [.report, .hold, .block],
              [.silent, .report, .hold], [.report, .hold], [.report, .hold], [.hold, .block], [.report, .hold],
              [.retry, .hold], [.silent, .report, .hold], [.hold, .block]] : List (List Response)).getD s.mi.addr []) →
        exec (.faultResponseWrite w) s = .next
          { s with mi := { m with status := .refusedRange }, out := BusOut.quiet })) ∧
    (s.mi.table = 4 →
      (∀ t : Timing,
        (s.mi.addr = 0 ∧ v.toNat ≤ 15 ∧ t = { s.su.timing with guardInterval := v } ∨
          s.mi.addr = 1 ∧ 1 ≤ v.toNat ∧ v.toNat ≤ 255 ∧ t = { s.su.timing with lockTimeout := v } ∨
          s.mi.addr = 2 ∧ v.toNat ≤ 255 ∧ t = { s.su.timing with retryDelay := v } ∨
          s.mi.addr = 3 ∧ v.toNat ≤ 7 ∧ t = { s.su.timing with retryLimit := v }) →
        exec (.timingWrite w) s = .next
          { s with su := { s.su with timing := t }, mi := m.wrote, out := BusOut.quiet }) ∧
      (s.mi.addr = 0 ∧ 16 ≤ v.toNat ∨ s.mi.addr = 1 ∧ (v.toNat = 0 ∨ 256 ≤ v.toNat) ∨ s.mi.addr = 2 ∧ 256 ≤ v.toNat ∨
          s.mi.addr = 3 ∧ 8 ≤ v.toNat →
        exec (.timingWrite w) s = .next
          { s with mi := { m with status := .refusedRange }, out := BusOut.quiet }))

/-- A PORTAL DATA word read: chosen when its first byte begins, with no other effect; when it has been sent, PORTAL STATUS is set and the address steps
in DATA-STEP, and nothing else changes (R170, R174, R175, R176; which row a word belongs to: log 18). -/
def Obligations.PortalWordsRead : Prop :=
  ∀ s : State, s.pins.resetLow = false → s.mi.mode = .address ∨ (s.mi.table ≠ 5 ∧ s.mi.table ≠ 6) →
    (s.mi.line = .reading → s.mi.item = .portalData → s.mi.sending = none →
      ∃ v : Word,
        exec (.portalDataRead .begins) s = .next
          { s with
            mi := { s.mi with sending := some .portalWord, out := [(v >>> 8).setWidth 8, v.setWidth 8] }
            out := BusOut.quiet } ∧
        (s.mi.mode = .address → v = BitVec.ofNat 16 s.mi.addr) ∧
        (s.mi.mode ≠ .address → portalSize s.mi.table ≤ s.mi.addr → v = 0xFFFF#16) ∧
        (s.mi.mode ≠ .address → s.mi.table = 0 → ∀ (n : Slot) (k : Fin 16), s.mi.addr = n.val * 16 + k.val →
          (∀ h : k.val < 14, v = (s.slot n).desc[k.val]) ∧ (k.val = 14 → v = 0#16) ∧
            (k.val = 15 → v = BitVec.ofNat 16 (s.slot n).stage.code)) ∧
        (s.mi.mode ≠ .address → s.mi.table = 1 → ∀ (n : Slot) (k : Fin 8), s.mi.addr = n.val * 8 + k.val →
          v = joinBytes (s.statusByte n (2 * k.val)) (s.statusByte n (2 * k.val + 1))) ∧
        (s.mi.mode ≠ .address → s.mi.table = 2 → ∀ t : Tag, s.mi.addr = t.val → v = BitVec.ofNat 16 (s.role t).code) ∧
        (s.mi.mode ≠ .address → s.mi.table = 3 → ∀ k : FaultKind, s.mi.addr = k.code - 1 →
          v = BitVec.ofNat 16 (s.programmed k).code) ∧
        (s.mi.mode ≠ .address → s.mi.table = 4 → s.mi.addr < 4 →
          some v =
            [s.su.timing.guardInterval, s.su.timing.lockTimeout, s.su.timing.retryDelay,
              s.su.timing.retryLimit][s.mi.addr]?) ∧
        (s.mi.mode ≠ .address → s.mi.table = 7 →
          (s.mi.addr = 0 → v = BitVec.ofNat 16 s.sw.queue.length) ∧
            ∀ k, s.mi.addr = k + 1 → k < 64 →
              v = (match s.sw.queue[k]? with | some n => BitVec.ofNat 16 n.val | none => 0xFFFF#16))) ∧
    (s.mi.sending = some .portalWord →
      exec (.portalDataRead .sent) s = .next
        { s with
          mi :=
            { (if s.mi.mode = .address then { s.mi with status := .ok }
               else if s.mi.addr < portalSize s.mi.table then s.mi.didRead .ok
               else { s.mi with status := .refusedAddress }) with
              sending := none
              bytePos := s.mi.bytePos + 2 }
          out := BusOut.quiet })

/-- The reads that remove: a custody log word is chosen from the oldest record, and word 7 sent removes that record and clears the overflow flag
when the log empties; a verified queue word is the head, and once sent removes the slot it returned, wherever it stands, but nothing further where
the slot left the queue meanwhile and has joined it anew (after a hold and a RESUME, R60, R181; after a custody reset: log 27); past the table's
size the word is FFFFh (R156, R158, R159, R170, R174, R181). -/
def Obligations.LogAndQueueReads : Prop :=
  ∀ s : State, s.pins.resetLow = false → s.mi.mode ≠ .address →
    (s.mi.table = 5 → s.mi.addr < 8 →
      (s.mi.line = .reading → s.mi.item = .portalData → s.mi.sending = none →
        ∃ v : Word,
          exec (.custodyLogRead .begins) s = .next
            { s with
              mi :=
                { s.mi with
                  sending := some (.logWord (decide (s.fu.log ≠ []))), out := [(v >>> 8).setWidth 8, v.setWidth 8] }
              out := BusOut.quiet } ∧
          (s.fu.log = [] → v = 0#16) ∧
          ∀ (r : LogRecord) (older : List LogRecord), s.fu.log = r :: older →
            some v =
              [r.seq,
               BitVec.ofNat 16 (r.kind.code * 256 + r.applied.code),
               BitVec.ofNat 16 (r.slot.val * 256 + match r.agent with | some t => t.val | none => 0xFF),
               BitVec.ofNat 16 (r.stage.code * 256 + r.detail.code),
               (match r.offset with | some o => BitVec.ofNat 16 (o / 65536) | none => 0xFFFF#16),
               (match r.offset with | some o => BitVec.ofNat 16 (o % 65536) | none => 0xFFFF#16),
               r.valueA,
               r.valueB][s.mi.addr]?) ∧
      (∀ found : Bool, s.mi.sending = some (.logWord found) →
        exec (.custodyLogRead .sent) s = .next
          { s with
            fu :=
              if found = true ∧ s.mi.addr = 7 then
                { s.fu with
                  log := s.fu.log.drop 1
                  overflow := s.fu.overflow && decide (1 < s.fu.log.length) }
              else s.fu
            mi :=
              { s.mi.didRead (if found then .ok else .empty) with
                sending := none
                bytePos := s.mi.bytePos + 2 }
            out := BusOut.quiet })) ∧
    (s.mi.table = 6 → s.mi.addr < 1 →
      (s.mi.line = .reading → s.mi.item = .portalData → s.mi.sending = none →
        ∃ v : Word,
          v = (match s.su.verified with | n :: _ => BitVec.ofNat 16 n.val | [] => 0xFFFF#16) ∧
          exec (.verifiedQueueRead .begins) s = .next
            { s with
              mi :=
                { s.mi with
                  sending := some (.verifiedWord s.su.verified.head? false)
                  out := [(v >>> 8).setWidth 8, v.setWidth 8] }
              out := BusOut.quiet }) ∧
      (∀ (head : Option Slot) (gone : Bool), s.mi.sending = some (.verifiedWord head gone) →
        exec (.verifiedQueueRead .sent) s = .next
          { s with
            su :=
              { s.su with
                verified :=
                  match head, gone with
                  | some n, false => s.su.verified.filter fun m => m != n
                  | _, _ => s.su.verified }
            mi :=
              { s.mi.didRead (if head.isSome then .ok else .empty) with
                sending := none
                bytePos := s.mi.bytePos + 2 }
            out := BusOut.quiet })) ∧
    (portalSize s.mi.table ≤ s.mi.addr → s.mi.line = .reading → s.mi.item = .portalData → s.mi.sending = none →
      (s.mi.table = 5 →
        exec (.custodyLogRead .begins) s = .next
          { s with
            mi := { s.mi with sending := some (.logWord (decide (s.fu.log ≠ []))), out := [0xFF#8, 0xFF#8] }
            out := BusOut.quiet }) ∧
      (s.mi.table = 6 →
        exec (.verifiedQueueRead .begins) s = .next
          { s with
            mi := { s.mi with sending := some (.verifiedWord s.su.verified.head? false), out := [0xFF#8, 0xFF#8] }
            out := BusOut.quiet }))

/-- ALERT CAUSE: the highest-priority latched and enabled cause is chosen when the byte begins and unlatched when it has been sent, unless it has
been latched again meanwhile; 00h unlatches nothing, and a byte past the item's one reads FFh and has no effect. ALERT ENABLE sets the seven enables
from bits 0–6. ALERT_N is low exactly while a cause is latched and enabled, the bridge is BLOCKED or a slot is HELD with its enable set, and RESET_N
is high (R161, R163, R164, R165, R170, R185). -/
def Obligations.AlertsAreCollected : Prop :=
  (∀ s : State, s.pins.resetLow = true → s.alertLow = false) ∧
  ∀ s : State, s.pins.resetLow = false →
    (s.mi.line = .reading → s.mi.item = .alertCause → s.mi.sending = none → s.mi.bytePos ≠ 0 →
      exec (.alertCause .begins) s = .next
        { s with mi := { s.mi with sending := some (.causeByte none false), out := [0xFF#8] }, out := BusOut.quiet }) ∧
    (∀ chosen : Option Cause, s.mi.line = .reading → s.mi.item = .alertCause → s.mi.sending = none → s.mi.bytePos = 0 →
      (∀ c, chosen = some c →
        (s.fu.latches[c.place.val] && s.fu.enables[c.place.val]) = true ∧
          ∀ d : Cause, d.code < c.code → (s.fu.latches[d.place.val] && s.fu.enables[d.place.val]) = false) →
      (chosen = none → ∀ d : Cause, (s.fu.latches[d.place.val] && s.fu.enables[d.place.val]) = false) →
      exec (.alertCause .begins) s = .next
        { s with
          mi :=
            { s.mi with
              sending := some (.causeByte chosen false)
              out := [match chosen with | some c => BitVec.ofNat 8 c.code | none => 0#8] }
          out := BusOut.quiet }) ∧
    (∀ (chosen : Option Cause) (again : Bool), s.mi.sending = some (.causeByte chosen again) →
      exec (.alertCause .sent) s = .next
        { s with
          fu :=
            { s.fu with
              latches :=
                match chosen, again with
                | some c, false => s.fu.latches.set c.place.val false
                | _, _ => s.fu.latches }
          mi := { s.mi with sending := none, bytePos := s.mi.bytePos + 1 }
          out := BusOut.quiet }) ∧
    (∀ (w : WordIn) (m : Management) (v : Word), s.mi.intake .alertEnable w = (m, some v) →
      exec (.alertEnable w) s = .next
        { s with
          fu :=
            { s.fu with
              enables :=
                #v[v.getLsbD 0, v.getLsbD 1, v.getLsbD 2, v.getLsbD 3, v.getLsbD 4, v.getLsbD 5, v.getLsbD 6] }
          mi := m
          out := BusOut.quiet }) ∧
    (s.alertLow = true ↔
      (∃ c : Cause, s.fu.latches[c.place.val] = true ∧ s.fu.enables[c.place.val] = true) ∨
        s.fu.bridge = .blocked ∧ s.fu.enables[Cause.blockEntered.place.val] = true ∨
        (∃ n : Slot, (s.slot n).stage = .held) ∧ s.fu.enables[Cause.slotHeld.place.val] = true)

/-- A read whose first byte begins and whose last byte is sent with nothing between is its beginning followed by its end; outside a transaction
under way it ends with its STOP (R164, R170, R181, log 5). -/
def Obligations.WholeReadsAreBothParts : Prop :=
  ∀ (s : State) (row : ReadPart → Instr) (i : Item), s.pins.resetLow = false →
    (row = .alertCause ∧ i = .alertCause ∨
      row = .portalDataRead ∧ i = .portalData ∧ (s.mi.mode = .address ∨ s.mi.table ≠ 5 ∧ s.mi.table ≠ 6) ∨
      row = .custodyLogRead ∧ i = .portalData ∧ s.mi.mode ≠ .address ∧ s.mi.table = 5 ∨
      row = .verifiedQueueRead ∧ i = .portalData ∧ s.mi.mode ≠ .address ∧ s.mi.table = 6) →
    ∃ s₁ s₂,
      (s.mi.line = .reading → s.mi.item = i → s.mi.sending = none →
        exec (row .begins) s = .next s₁ ∧ exec (row .sent) s₁ = .next s₂ ∧ exec (row .whole) s = .next s₂) ∧
      (s.mi.line ≠ .reading ∨ s.mi.item ≠ i →
        exec (row .begins) s = .next s₁ ∧ exec (row .sent) s₁ = .next s₂ ∧
          exec (row .whole) s = .next { s₂ with mi := { s₂.mi with line := .idle, bytePos := 0 } })

/-- The COMMAND item: BLOCK, UNBLOCK and CLEAR LOG with their effects on the Fault Unit; a word that is none of the four commands has its second
byte not acknowledged and does nothing (R153, R155, R159, R169, R182). That such a word is the event of each of the four command rows is the model's
choice (log 21). -/
def Obligations.CommandsOfTheFaultUnit : Prop :=
  ∀ (s : State) (w : WordIn) (m : Management) (v : Word), s.pins.resetLow = false →
    s.mi.intake .command w = (m, some v) →
    (v = 1#16 →
      exec (.block w) s = .next
        { s with
          fu :=
            { s.fu with
              bridge := .blocked
              latches := if s.fu.bridge = .guarding then s.fu.latches.set 0 true else s.fu.latches }
          mi :=
            { m with
              sending :=
                if s.fu.bridge = .guarding then m.sending.map fun x => x.afterLatching [.blockEntered] else m.sending }
          out := BusOut.quiet }) ∧
    (v = 2#16 →
      exec (.unblock w) s = .next
        { s with fu := { s.fu with bridge := .guarding }, mi := m, out := BusOut.quiet }) ∧
    (v = 4#16 →
      exec (.clearLog w) s = .next
        { s with fu := { s.fu with log := [], overflow := false }, mi := m, out := BusOut.quiet }) ∧
    (v ∉ [1#16, 2#16, 3#16, 4#16] →
      ∀ c ∈ [Instr.block w, .unblock w, .custodyReset w, .clearLog w],
        exec c s = .next { s with mi := { m with acked := false }, out := BusOut.quiet })

/-- CUSTODY RESET: every slot at its reset values with its descriptor kept, every lock, key, queue and list of slots gone, the bridge GUARDING; the
memory queue, the operation in flight, reports and SEQUENCE faults in hand, roles, responses, timing values, log, latches, enables and the
management line stay; a freeze read or burst in flight is of an abandoned freeze or sweep (R67, R82, R103, R116, R123, R129, R138, R139, R155, R160,
R183). -/
def Obligations.CustodyReset : Prop :=
  ∀ (s : State) (w : WordIn) (m : Management), s.pins.resetLow = false → s.mi.intake .command w = (m, some 3#16) →
    ∃ slots,
      (∀ n : Slot, slots[n.val] = { State.reset.slot n with desc := (s.slot n).desc }) ∧
      exec (.custodyReset w) s = .next (State.arbitrate
        { s with
          slots := slots
          acc := { s.acc with locks := [] }
          su := { s.su with verified := [] }
          directory := []
          cc := { s.cc with freezeList := [], freeze := none }
          mp :=
            { s.mp with
              op :=
                match s.mp.op with
                | some (.freezeRead n k pa _) => some (.freezeRead n k pa true)
                | some (.sweepBurst n k pa _) => some (.sweepBurst n k pa true)
                | some .queueHead => some .queueHead
                | none => none
              sweepWait := 0
              besideSweep := false }
          sw := { queue := [], sweep := none }
          fu := { s.fu with bridge := .guarding }
          mi := m
          out := BusOut.quiet })

/-! Invariants. -/

/-- The state after RESET_N (R17, R66, R68, R82, R95, R96, R123, R139, R160) obeys every law: those of regions (R5, R7), held-from stages (R11), the
list of verified slots (R59), timing ranges (R66), keys (R79), links (R83), card check ranges (R96), the freeze order list (R97, R98), completion
flags (R109), retry timers (R114), locks (R117, R120), the memory queue (R125, R127, R129), the sweep queue (R134, R136), memory operations (R135),
the custody log (R156, R157, R158), and staging memory's canonical form (the model's, log 7). -/
def Obligations.ResetIsLawful : Prop := State.reset.Lawful

/-- Every step keeps staging memory in its canonical form (log 7). -/
def Obligations.StepsKeepTheMemory : Prop :=
  ∀ s t : State, s.memoryLaw → step s = .next t → t.memoryLaw

/-- Every step keeps the bounds of the memory queue, the sweep wait count and the drain counts (R125, R127, R129), and the law of the custody log:
at most 32 records, their numbers one after another modulo 65536 up to the next one, and no overflow flag on an empty log (R156, R157, R158). -/
def Obligations.StepsKeepTheQueueAndTheLog : Prop :=
  (∀ s t : State, s.queueLaw → step s = .next t → t.queueLaw) ∧
    ∀ s t : State, s.logLaw → step s = .next t → t.logLaw

/-- Every step keeps the law of the lock table: at most one lock on a slot and one of an agent, no lock beside an active guard, none on a slot in
VACANT, FREEZING or SWEEPING (R117, R120). -/
def Obligations.StepsKeepTheLocks : Prop :=
  ∀ s t : State, s.lockLaw → step s = .next t → t.lockLaw

/-- Every step keeps the ranges of the card check state and of the timing table (R66, R96), the held-from law of HELD (R11), punch-complete and
print-complete in VERIFIED, and a retry timer running in FROZEN alone (R109, R114). -/
def Obligations.StepsKeepTheSlotRecords : Prop :=
  (∀ s t : State, s.rangeLaw → step s = .next t → t.rangeLaw) ∧
    (∀ s t : State, s.heldLaw → step s = .next t → t.heldLaw) ∧
    ∀ s t : State, s.verifiedLaw → step s = .next t → t.verifiedLaw

/-- Every step keeps the laws of the verified queue, the freeze order list and the sweep queue, and of the freeze and the sweep under way
(R59, R97, R98, R134, R136). -/
def Obligations.StepsKeepTheLists : Prop :=
  ∀ s t : State, s.listLaw → step s = .next t → t.listLaw

/-- Every step keeps the law of the live links: paired both ways, between slots from SCANNING through HELD (R83). -/
def Obligations.StepsKeepTheLinks : Prop :=
  ∀ s t : State, s.linkLaw → s.listLaw → step s = .next t → t.linkLaw

/-- Every step keeps the law of the key directory: one entry for each established key, no key twice, and only in COMPOSING through VERIFIED or HELD
from one of these (R79). -/
def Obligations.StepsKeepTheKeys : Prop :=
  ∀ s t : State, s.keyLaw → s.listLaw → step s = .next t → t.keyLaw

/-- Every step keeps the slots' regions apart and within memory (R5, R7), RESET_N's hold on them (R139, R185) and every operation of the memory
within the fitted memory (R5, R6, R135); and from such a state every step answers a next state. -/
def Obligations.StepsKeepTheRegions : Prop :=
  (∀ s t : State, s.regionLaw → s.listLaw → s.resetLaw → step s = .next t → t.regionLaw ∧ t.resetLaw) ∧
    (∀ s t : State, s.operationLaw → s.regionLaw → s.listLaw → s.resetLaw → step s = .next t → t.operationLaw) ∧
    ∀ s : State, s.operationLaw → ∃ t, step s = .next t
end

