-- ==== Sys2Proof/Laws/State.lean ====
section
/-! SUPPORT. What each named update of the state leaves in each of its fields, true by definition. -/

namespace Sys2Proof.Machine

/-! Reading a slot back. -/

@[simp] theorem State.slot_setSlot_self (s : State) (n : Slot) (r : SlotRec) : (s.setSlot n r).slot n = r := by
  simp [State.slot, State.setSlot]

@[simp] theorem State.slot_setSlot_of_ne (s : State) (n m : Slot) (r : SlotRec) (h : m ≠ n) :
    (s.setSlot n r).slot m = s.slot m := by
  have hv : n.val ≠ m.val := fun e => h (Fin.ext e.symm)
  simp [State.slot, State.setSlot, hv]

@[simp] theorem State.slot_modSlot_self (s : State) (n : Slot) (f : SlotRec → SlotRec) :
    (s.modSlot n f).slot n = f (s.slot n) := by
  simp [State.modSlot]

@[simp] theorem State.slot_modSlot_of_ne (s : State) (n m : Slot) (f : SlotRec → SlotRec) (h : m ≠ n) :
    (s.modSlot n f).slot m = s.slot m := by
  simp [State.modSlot, h]

/-- The record of a slot after the record of a slot changed. -/
theorem State.slot_modSlot (s : State) (n m : Slot) (f : SlotRec → SlotRec) :
    (s.modSlot n f).slot m = if m = n then f (s.slot n) else s.slot m := by
  by_cases h : m = n
  · subst h; simp
  · simp [h]

/-! `State.setSlot`. -/

@[simp] theorem State.slots_setSlot (s : State) (n : Slot) (r : SlotRec) :
    (s.setSlot n r).slots = s.slots.set n.val r := rfl
@[simp] theorem State.acc_setSlot (s : State) (n : Slot) (r : SlotRec) : (s.setSlot n r).acc = s.acc := rfl
@[simp] theorem State.su_setSlot (s : State) (n : Slot) (r : SlotRec) : (s.setSlot n r).su = s.su := rfl
@[simp] theorem State.directory_setSlot (s : State) (n : Slot) (r : SlotRec) :
    (s.setSlot n r).directory = s.directory := rfl
@[simp] theorem State.cc_setSlot (s : State) (n : Slot) (r : SlotRec) : (s.setSlot n r).cc = s.cc := rfl
@[simp] theorem State.mp_setSlot (s : State) (n : Slot) (r : SlotRec) : (s.setSlot n r).mp = s.mp := rfl
@[simp] theorem State.sw_setSlot (s : State) (n : Slot) (r : SlotRec) : (s.setSlot n r).sw = s.sw := rfl
@[simp] theorem State.fu_setSlot (s : State) (n : Slot) (r : SlotRec) : (s.setSlot n r).fu = s.fu := rfl
@[simp] theorem State.mi_setSlot (s : State) (n : Slot) (r : SlotRec) : (s.setSlot n r).mi = s.mi := rfl
@[simp] theorem State.pins_setSlot (s : State) (n : Slot) (r : SlotRec) : (s.setSlot n r).pins = s.pins := rfl
@[simp] theorem State.out_setSlot (s : State) (n : Slot) (r : SlotRec) : (s.setSlot n r).out = s.out := rfl
@[simp] theorem State.mem_setSlot (s : State) (n : Slot) (r : SlotRec) : (s.setSlot n r).mem = s.mem := rfl
@[simp] theorem State.freeCount_setSlot (s : State) (n : Slot) (r : SlotRec) :
    (s.setSlot n r).freeCount = s.freeCount := rfl
@[simp] theorem State.pending_setSlot (s : State) (n : Slot) (r : SlotRec) : (s.setSlot n r).pending = s.pending := rfl

/-! `State.modSlot`. -/

@[simp] theorem State.slots_modSlot (s : State) (n : Slot) (f : SlotRec → SlotRec) :
    (s.modSlot n f).slots = s.slots.set n.val (f (s.slot n)) := rfl
@[simp] theorem State.acc_modSlot (s : State) (n : Slot) (f : SlotRec → SlotRec) : (s.modSlot n f).acc = s.acc := rfl
@[simp] theorem State.su_modSlot (s : State) (n : Slot) (f : SlotRec → SlotRec) : (s.modSlot n f).su = s.su := rfl
@[simp] theorem State.directory_modSlot (s : State) (n : Slot) (f : SlotRec → SlotRec) :
    (s.modSlot n f).directory = s.directory := rfl
@[simp] theorem State.cc_modSlot (s : State) (n : Slot) (f : SlotRec → SlotRec) : (s.modSlot n f).cc = s.cc := rfl
@[simp] theorem State.mp_modSlot (s : State) (n : Slot) (f : SlotRec → SlotRec) : (s.modSlot n f).mp = s.mp := rfl
@[simp] theorem State.sw_modSlot (s : State) (n : Slot) (f : SlotRec → SlotRec) : (s.modSlot n f).sw = s.sw := rfl
@[simp] theorem State.fu_modSlot (s : State) (n : Slot) (f : SlotRec → SlotRec) : (s.modSlot n f).fu = s.fu := rfl
@[simp] theorem State.mi_modSlot (s : State) (n : Slot) (f : SlotRec → SlotRec) : (s.modSlot n f).mi = s.mi := rfl
@[simp] theorem State.pins_modSlot (s : State) (n : Slot) (f : SlotRec → SlotRec) : (s.modSlot n f).pins = s.pins := rfl
@[simp] theorem State.out_modSlot (s : State) (n : Slot) (f : SlotRec → SlotRec) : (s.modSlot n f).out = s.out := rfl
@[simp] theorem State.mem_modSlot (s : State) (n : Slot) (f : SlotRec → SlotRec) : (s.modSlot n f).mem = s.mem := rfl
@[simp] theorem State.freeCount_modSlot (s : State) (n : Slot) (f : SlotRec → SlotRec) :
    (s.modSlot n f).freeCount = s.freeCount := rfl
@[simp] theorem State.pending_modSlot (s : State) (n : Slot) (f : SlotRec → SlotRec) :
    (s.modSlot n f).pending = s.pending := rfl

/-! `State.quiet`. -/

@[simp] theorem State.slots_quiet (s : State) : (s.quiet).slots = s.slots := rfl
@[simp] theorem State.acc_quiet (s : State) : (s.quiet).acc = s.acc := rfl
@[simp] theorem State.su_quiet (s : State) : (s.quiet).su = s.su := rfl
@[simp] theorem State.directory_quiet (s : State) : (s.quiet).directory = s.directory := rfl
@[simp] theorem State.cc_quiet (s : State) : (s.quiet).cc = s.cc := rfl
@[simp] theorem State.mp_quiet (s : State) : (s.quiet).mp = s.mp := rfl
@[simp] theorem State.sw_quiet (s : State) : (s.quiet).sw = s.sw := rfl
@[simp] theorem State.fu_quiet (s : State) : (s.quiet).fu = s.fu := rfl
@[simp] theorem State.mi_quiet (s : State) : (s.quiet).mi = s.mi := rfl
@[simp] theorem State.pins_quiet (s : State) : (s.quiet).pins = s.pins := rfl
@[simp] theorem State.out_quiet (s : State) : (s.quiet).out = BusOut.quiet := rfl
@[simp] theorem State.mem_quiet (s : State) : (s.quiet).mem = s.mem := rfl
@[simp] theorem State.freeCount_quiet (s : State) : (s.quiet).freeCount = s.freeCount := rfl
@[simp] theorem State.pending_quiet (s : State) : (s.quiet).pending = s.pending := rfl
@[simp] theorem State.slot_quiet (s : State) (m : Slot) :
    (s.quiet).slot m = s.slot m := rfl

/-! `State.answer`. -/

@[simp] theorem State.slots_answer (s : State) (r : BusResponse) (d : List Byte) : (s.answer r d).slots = s.slots := rfl
@[simp] theorem State.acc_answer (s : State) (r : BusResponse) (d : List Byte) : (s.answer r d).acc = s.acc := rfl
@[simp] theorem State.su_answer (s : State) (r : BusResponse) (d : List Byte) : (s.answer r d).su = s.su := rfl
@[simp] theorem State.directory_answer (s : State) (r : BusResponse) (d : List Byte) :
    (s.answer r d).directory = s.directory := rfl
@[simp] theorem State.cc_answer (s : State) (r : BusResponse) (d : List Byte) : (s.answer r d).cc = s.cc := rfl
@[simp] theorem State.mp_answer (s : State) (r : BusResponse) (d : List Byte) : (s.answer r d).mp = s.mp := rfl
@[simp] theorem State.sw_answer (s : State) (r : BusResponse) (d : List Byte) : (s.answer r d).sw = s.sw := rfl
@[simp] theorem State.fu_answer (s : State) (r : BusResponse) (d : List Byte) : (s.answer r d).fu = s.fu := rfl
@[simp] theorem State.mi_answer (s : State) (r : BusResponse) (d : List Byte) : (s.answer r d).mi = s.mi := rfl
@[simp] theorem State.pins_answer (s : State) (r : BusResponse) (d : List Byte) : (s.answer r d).pins = s.pins := rfl
@[simp] theorem State.out_answer (s : State) (r : BusResponse) (d : List Byte) :
    (s.answer r d).out = { s.out with resp := r, data := d } := rfl
@[simp] theorem State.mem_answer (s : State) (r : BusResponse) (d : List Byte) : (s.answer r d).mem = s.mem := rfl
@[simp] theorem State.freeCount_answer (s : State) (r : BusResponse) (d : List Byte) :
    (s.answer r d).freeCount = s.freeCount := rfl
@[simp] theorem State.pending_answer (s : State) (r : BusResponse) (d : List Byte) :
    (s.answer r d).pending = s.pending := rfl
@[simp] theorem State.slot_answer (s : State) (r : BusResponse) (d : List Byte) (m : Slot) :
    (s.answer r d).slot m = s.slot m := rfl

/-! `State.answerQueued`. -/

@[simp] theorem State.slots_answerQueued (s : State) (r : BusResponse) (t : Tag) (d : List Byte) :
    (s.answerQueued r t d).slots = s.slots := rfl
@[simp] theorem State.acc_answerQueued (s : State) (r : BusResponse) (t : Tag) (d : List Byte) :
    (s.answerQueued r t d).acc = s.acc := rfl
@[simp] theorem State.su_answerQueued (s : State) (r : BusResponse) (t : Tag) (d : List Byte) :
    (s.answerQueued r t d).su = s.su := rfl
@[simp] theorem State.directory_answerQueued (s : State) (r : BusResponse) (t : Tag) (d : List Byte) :
    (s.answerQueued r t d).directory = s.directory := rfl
@[simp] theorem State.cc_answerQueued (s : State) (r : BusResponse) (t : Tag) (d : List Byte) :
    (s.answerQueued r t d).cc = s.cc := rfl
@[simp] theorem State.mp_answerQueued (s : State) (r : BusResponse) (t : Tag) (d : List Byte) :
    (s.answerQueued r t d).mp = s.mp := rfl
@[simp] theorem State.sw_answerQueued (s : State) (r : BusResponse) (t : Tag) (d : List Byte) :
    (s.answerQueued r t d).sw = s.sw := rfl
@[simp] theorem State.fu_answerQueued (s : State) (r : BusResponse) (t : Tag) (d : List Byte) :
    (s.answerQueued r t d).fu = s.fu := rfl
@[simp] theorem State.mi_answerQueued (s : State) (r : BusResponse) (t : Tag) (d : List Byte) :
    (s.answerQueued r t d).mi = s.mi := rfl
@[simp] theorem State.pins_answerQueued (s : State) (r : BusResponse) (t : Tag) (d : List Byte) :
    (s.answerQueued r t d).pins = s.pins := rfl
@[simp] theorem State.out_answerQueued (s : State) (r : BusResponse) (t : Tag) (d : List Byte) :
    (s.answerQueued r t d).out = { s.out with qResp := r, qTag := t, qData := d } := rfl
@[simp] theorem State.mem_answerQueued (s : State) (r : BusResponse) (t : Tag) (d : List Byte) :
    (s.answerQueued r t d).mem = s.mem := rfl
@[simp] theorem State.freeCount_answerQueued (s : State) (r : BusResponse) (t : Tag) (d : List Byte) :
    (s.answerQueued r t d).freeCount = s.freeCount := rfl
@[simp] theorem State.pending_answerQueued (s : State) (r : BusResponse) (t : Tag) (d : List Byte) :
    (s.answerQueued r t d).pending = s.pending := rfl
@[simp] theorem State.slot_answerQueued (s : State) (r : BusResponse) (t : Tag) (d : List Byte) (m : Slot) :
    (s.answerQueued r t d).slot m = s.slot m := rfl

/-! `State.report`. -/

@[simp] theorem State.slots_report (s : State) (r : Report) : (s.report r).slots = s.slots := rfl
@[simp] theorem State.acc_report (s : State) (r : Report) : (s.report r).acc = s.acc := rfl
@[simp] theorem State.su_report (s : State) (r : Report) : (s.report r).su = s.su := rfl
@[simp] theorem State.directory_report (s : State) (r : Report) : (s.report r).directory = s.directory := rfl
@[simp] theorem State.cc_report (s : State) (r : Report) : (s.report r).cc = s.cc := rfl
@[simp] theorem State.mp_report (s : State) (r : Report) : (s.report r).mp = s.mp := rfl
@[simp] theorem State.sw_report (s : State) (r : Report) : (s.report r).sw = s.sw := rfl
@[simp] theorem State.fu_report (s : State) (r : Report) :
    (s.report r).fu = { s.fu with reports := s.fu.reports ++ [r] } := rfl
@[simp] theorem State.mi_report (s : State) (r : Report) : (s.report r).mi = s.mi := rfl
@[simp] theorem State.pins_report (s : State) (r : Report) : (s.report r).pins = s.pins := rfl
@[simp] theorem State.out_report (s : State) (r : Report) : (s.report r).out = s.out := rfl
@[simp] theorem State.mem_report (s : State) (r : Report) : (s.report r).mem = s.mem := rfl
@[simp] theorem State.freeCount_report (s : State) (r : Report) : (s.report r).freeCount = s.freeCount := rfl
@[simp] theorem State.pending_report (s : State) (r : Report) : (s.report r).pending = s.pending := rfl
@[simp] theorem State.slot_report (s : State) (r : Report) (m : Slot) :
    (s.report r).slot m = s.slot m := rfl

/-! `State.latch`. -/

@[simp] theorem State.slots_latch (s : State) (c : Cause) : (s.latch c).slots = s.slots := rfl
@[simp] theorem State.acc_latch (s : State) (c : Cause) : (s.latch c).acc = s.acc := rfl
@[simp] theorem State.su_latch (s : State) (c : Cause) : (s.latch c).su = s.su := rfl
@[simp] theorem State.directory_latch (s : State) (c : Cause) : (s.latch c).directory = s.directory := rfl
@[simp] theorem State.cc_latch (s : State) (c : Cause) : (s.latch c).cc = s.cc := rfl
@[simp] theorem State.mp_latch (s : State) (c : Cause) : (s.latch c).mp = s.mp := rfl
@[simp] theorem State.sw_latch (s : State) (c : Cause) : (s.latch c).sw = s.sw := rfl
@[simp] theorem State.fu_latch (s : State) (c : Cause) :
    (s.latch c).fu = { s.fu with latches := s.fu.latches.set c.place.val true } := rfl
@[simp] theorem State.mi_latch (s : State) (c : Cause) :
    (s.latch c).mi = { s.mi with sending := s.mi.sending.map fun x => x.latchedAgain c } := rfl
@[simp] theorem State.pins_latch (s : State) (c : Cause) : (s.latch c).pins = s.pins := rfl
@[simp] theorem State.out_latch (s : State) (c : Cause) : (s.latch c).out = s.out := rfl
@[simp] theorem State.mem_latch (s : State) (c : Cause) : (s.latch c).mem = s.mem := rfl
@[simp] theorem State.freeCount_latch (s : State) (c : Cause) : (s.latch c).freeCount = s.freeCount := rfl
@[simp] theorem State.pending_latch (s : State) (c : Cause) : (s.latch c).pending = s.pending := rfl
@[simp] theorem State.slot_latch (s : State) (c : Cause) (m : Slot) :
    (s.latch c).slot m = s.slot m := rfl

/-! `State.dropLocksOn`. -/

@[simp] theorem State.slots_dropLocksOn (s : State) (n : Slot) : (s.dropLocksOn n).slots = s.slots := rfl
@[simp] theorem State.acc_dropLocksOn (s : State) (n : Slot) :
    (s.dropLocksOn n).acc = { s.acc with locks := s.acc.locks.filter fun l => l.slot != n } := rfl
@[simp] theorem State.su_dropLocksOn (s : State) (n : Slot) : (s.dropLocksOn n).su = s.su := rfl
@[simp] theorem State.directory_dropLocksOn (s : State) (n : Slot) : (s.dropLocksOn n).directory = s.directory := rfl
@[simp] theorem State.cc_dropLocksOn (s : State) (n : Slot) : (s.dropLocksOn n).cc = s.cc := rfl
@[simp] theorem State.mp_dropLocksOn (s : State) (n : Slot) : (s.dropLocksOn n).mp = s.mp := rfl
@[simp] theorem State.sw_dropLocksOn (s : State) (n : Slot) : (s.dropLocksOn n).sw = s.sw := rfl
@[simp] theorem State.fu_dropLocksOn (s : State) (n : Slot) : (s.dropLocksOn n).fu = s.fu := rfl
@[simp] theorem State.mi_dropLocksOn (s : State) (n : Slot) : (s.dropLocksOn n).mi = s.mi := rfl
@[simp] theorem State.pins_dropLocksOn (s : State) (n : Slot) : (s.dropLocksOn n).pins = s.pins := rfl
@[simp] theorem State.out_dropLocksOn (s : State) (n : Slot) : (s.dropLocksOn n).out = s.out := rfl
@[simp] theorem State.mem_dropLocksOn (s : State) (n : Slot) : (s.dropLocksOn n).mem = s.mem := rfl
@[simp] theorem State.freeCount_dropLocksOn (s : State) (n : Slot) : (s.dropLocksOn n).freeCount = s.freeCount := rfl
@[simp] theorem State.pending_dropLocksOn (s : State) (n : Slot) : (s.dropLocksOn n).pending = s.pending := rfl
@[simp] theorem State.slot_dropLocksOn (s : State) (n : Slot) (m : Slot) :
    (s.dropLocksOn n).slot m = s.slot m := rfl

/-! `State.changeStage`. -/

@[simp] theorem State.slots_changeStage (s : State) (n : Slot) (st : Stage) :
    (s.changeStage n st).slots = s.slots.set n.val ((s.slot n).enter st (s.queuedOf n) s.su.timing.guardInterval.toNat) := rfl
@[simp] theorem State.acc_changeStage (s : State) (n : Slot) (st : Stage) :
    (s.changeStage n st).acc = { s.acc with locks := s.acc.locks.filter fun l => l.slot != n } := rfl
@[simp] theorem State.su_changeStage (s : State) (n : Slot) (st : Stage) : (s.changeStage n st).su = s.su := rfl
@[simp] theorem State.directory_changeStage (s : State) (n : Slot) (st : Stage) :
    (s.changeStage n st).directory = s.directory := rfl
@[simp] theorem State.cc_changeStage (s : State) (n : Slot) (st : Stage) : (s.changeStage n st).cc = s.cc := rfl
@[simp] theorem State.mp_changeStage (s : State) (n : Slot) (st : Stage) : (s.changeStage n st).mp = s.mp := rfl
@[simp] theorem State.sw_changeStage (s : State) (n : Slot) (st : Stage) : (s.changeStage n st).sw = s.sw := rfl
@[simp] theorem State.fu_changeStage (s : State) (n : Slot) (st : Stage) : (s.changeStage n st).fu = s.fu := rfl
@[simp] theorem State.mi_changeStage (s : State) (n : Slot) (st : Stage) : (s.changeStage n st).mi = s.mi := rfl
@[simp] theorem State.pins_changeStage (s : State) (n : Slot) (st : Stage) : (s.changeStage n st).pins = s.pins := rfl
@[simp] theorem State.out_changeStage (s : State) (n : Slot) (st : Stage) : (s.changeStage n st).out = s.out := rfl
@[simp] theorem State.mem_changeStage (s : State) (n : Slot) (st : Stage) : (s.changeStage n st).mem = s.mem := rfl
@[simp] theorem State.freeCount_changeStage (s : State) (n : Slot) (st : Stage) :
    (s.changeStage n st).freeCount = s.freeCount := rfl
@[simp] theorem State.pending_changeStage (s : State) (n : Slot) (st : Stage) :
    (s.changeStage n st).pending = s.pending := rfl

/-! `State.releaseKey`. -/

@[simp] theorem State.slots_releaseKey (s : State) (n : Slot) :
    (s.releaseKey n).slots = s.slots.set n.val { s.slot n with keyEst := false } := rfl
@[simp] theorem State.acc_releaseKey (s : State) (n : Slot) : (s.releaseKey n).acc = s.acc := rfl
@[simp] theorem State.su_releaseKey (s : State) (n : Slot) : (s.releaseKey n).su = s.su := rfl
@[simp] theorem State.directory_releaseKey (s : State) (n : Slot) :
    (s.releaseKey n).directory = s.directory.filter fun e => e.slot != n := rfl
@[simp] theorem State.cc_releaseKey (s : State) (n : Slot) : (s.releaseKey n).cc = s.cc := rfl
@[simp] theorem State.mp_releaseKey (s : State) (n : Slot) : (s.releaseKey n).mp = s.mp := rfl
@[simp] theorem State.sw_releaseKey (s : State) (n : Slot) : (s.releaseKey n).sw = s.sw := rfl
@[simp] theorem State.fu_releaseKey (s : State) (n : Slot) : (s.releaseKey n).fu = s.fu := rfl
@[simp] theorem State.mi_releaseKey (s : State) (n : Slot) : (s.releaseKey n).mi = s.mi := rfl
@[simp] theorem State.pins_releaseKey (s : State) (n : Slot) : (s.releaseKey n).pins = s.pins := rfl
@[simp] theorem State.out_releaseKey (s : State) (n : Slot) : (s.releaseKey n).out = s.out := rfl
@[simp] theorem State.mem_releaseKey (s : State) (n : Slot) : (s.releaseKey n).mem = s.mem := rfl
@[simp] theorem State.freeCount_releaseKey (s : State) (n : Slot) : (s.releaseKey n).freeCount = s.freeCount := rfl
@[simp] theorem State.pending_releaseKey (s : State) (n : Slot) : (s.releaseKey n).pending = s.pending := rfl

/-! `State.joinVerified`. -/

@[simp] theorem State.slots_joinVerified (s : State) (n : Slot) : (s.joinVerified n).slots = s.slots := rfl
@[simp] theorem State.acc_joinVerified (s : State) (n : Slot) : (s.joinVerified n).acc = s.acc := rfl
@[simp] theorem State.su_joinVerified (s : State) (n : Slot) :
    (s.joinVerified n).su = { s.su with verified := s.su.verified ++ [n] } := rfl
@[simp] theorem State.directory_joinVerified (s : State) (n : Slot) : (s.joinVerified n).directory = s.directory := rfl
@[simp] theorem State.cc_joinVerified (s : State) (n : Slot) : (s.joinVerified n).cc = s.cc := rfl
@[simp] theorem State.mp_joinVerified (s : State) (n : Slot) : (s.joinVerified n).mp = s.mp := rfl
@[simp] theorem State.sw_joinVerified (s : State) (n : Slot) : (s.joinVerified n).sw = s.sw := rfl
@[simp] theorem State.fu_joinVerified (s : State) (n : Slot) : (s.joinVerified n).fu = s.fu := rfl
@[simp] theorem State.mi_joinVerified (s : State) (n : Slot) :
    (s.joinVerified n).mi = { s.mi with sending := s.mi.sending.map fun x => x.rejoined n } := rfl
@[simp] theorem State.pins_joinVerified (s : State) (n : Slot) : (s.joinVerified n).pins = s.pins := rfl
@[simp] theorem State.out_joinVerified (s : State) (n : Slot) : (s.joinVerified n).out = s.out := rfl
@[simp] theorem State.mem_joinVerified (s : State) (n : Slot) : (s.joinVerified n).mem = s.mem := rfl
@[simp] theorem State.freeCount_joinVerified (s : State) (n : Slot) : (s.joinVerified n).freeCount = s.freeCount := rfl
@[simp] theorem State.pending_joinVerified (s : State) (n : Slot) : (s.joinVerified n).pending = s.pending := rfl
@[simp] theorem State.slot_joinVerified (s : State) (n : Slot) (m : Slot) :
    (s.joinVerified n).slot m = s.slot m := rfl

/-! `State.leaveVerified`. -/

@[simp] theorem State.slots_leaveVerified (s : State) (n : Slot) : (s.leaveVerified n).slots = s.slots := rfl
@[simp] theorem State.acc_leaveVerified (s : State) (n : Slot) : (s.leaveVerified n).acc = s.acc := rfl
@[simp] theorem State.su_leaveVerified (s : State) (n : Slot) :
    (s.leaveVerified n).su = { s.su with verified := s.su.verified.filter fun m => m != n } := rfl
@[simp] theorem State.directory_leaveVerified (s : State) (n : Slot) :
    (s.leaveVerified n).directory = s.directory := rfl
@[simp] theorem State.cc_leaveVerified (s : State) (n : Slot) : (s.leaveVerified n).cc = s.cc := rfl
@[simp] theorem State.mp_leaveVerified (s : State) (n : Slot) : (s.leaveVerified n).mp = s.mp := rfl
@[simp] theorem State.sw_leaveVerified (s : State) (n : Slot) : (s.leaveVerified n).sw = s.sw := rfl
@[simp] theorem State.fu_leaveVerified (s : State) (n : Slot) : (s.leaveVerified n).fu = s.fu := rfl
@[simp] theorem State.mi_leaveVerified (s : State) (n : Slot) : (s.leaveVerified n).mi = s.mi := rfl
@[simp] theorem State.pins_leaveVerified (s : State) (n : Slot) : (s.leaveVerified n).pins = s.pins := rfl
@[simp] theorem State.out_leaveVerified (s : State) (n : Slot) : (s.leaveVerified n).out = s.out := rfl
@[simp] theorem State.mem_leaveVerified (s : State) (n : Slot) : (s.leaveVerified n).mem = s.mem := rfl
@[simp] theorem State.freeCount_leaveVerified (s : State) (n : Slot) :
    (s.leaveVerified n).freeCount = s.freeCount := rfl
@[simp] theorem State.pending_leaveVerified (s : State) (n : Slot) : (s.leaveVerified n).pending = s.pending := rfl
@[simp] theorem State.slot_leaveVerified (s : State) (n : Slot) (m : Slot) :
    (s.leaveVerified n).slot m = s.slot m := rfl

/-! `State.joinSweep`. -/

@[simp] theorem State.slots_joinSweep (s : State) (n : Slot) : (s.joinSweep n).slots = s.slots := rfl
@[simp] theorem State.acc_joinSweep (s : State) (n : Slot) : (s.joinSweep n).acc = s.acc := rfl
@[simp] theorem State.su_joinSweep (s : State) (n : Slot) : (s.joinSweep n).su = s.su := rfl
@[simp] theorem State.directory_joinSweep (s : State) (n : Slot) : (s.joinSweep n).directory = s.directory := rfl
@[simp] theorem State.cc_joinSweep (s : State) (n : Slot) : (s.joinSweep n).cc = s.cc := rfl
@[simp] theorem State.mp_joinSweep (s : State) (n : Slot) : (s.joinSweep n).mp = s.mp := rfl
@[simp] theorem State.sw_joinSweep (s : State) (n : Slot) :
    (s.joinSweep n).sw = { s.sw with queue := s.sw.queue ++ [n] } := rfl
@[simp] theorem State.fu_joinSweep (s : State) (n : Slot) : (s.joinSweep n).fu = s.fu := rfl
@[simp] theorem State.mi_joinSweep (s : State) (n : Slot) : (s.joinSweep n).mi = s.mi := rfl
@[simp] theorem State.pins_joinSweep (s : State) (n : Slot) : (s.joinSweep n).pins = s.pins := rfl
@[simp] theorem State.out_joinSweep (s : State) (n : Slot) : (s.joinSweep n).out = s.out := rfl
@[simp] theorem State.mem_joinSweep (s : State) (n : Slot) : (s.joinSweep n).mem = s.mem := rfl
@[simp] theorem State.freeCount_joinSweep (s : State) (n : Slot) : (s.joinSweep n).freeCount = s.freeCount := rfl
@[simp] theorem State.pending_joinSweep (s : State) (n : Slot) : (s.joinSweep n).pending = s.pending := rfl
@[simp] theorem State.slot_joinSweep (s : State) (n : Slot) (m : Slot) :
    (s.joinSweep n).slot m = s.slot m := rfl

/-! `State.freeMemory`. -/

@[simp] theorem State.slots_freeMemory (s : State) : (s.freeMemory).slots = s.slots := rfl
@[simp] theorem State.acc_freeMemory (s : State) : (s.freeMemory).acc = s.acc := rfl
@[simp] theorem State.su_freeMemory (s : State) : (s.freeMemory).su = s.su := rfl
@[simp] theorem State.directory_freeMemory (s : State) : (s.freeMemory).directory = s.directory := rfl
@[simp] theorem State.cc_freeMemory (s : State) : (s.freeMemory).cc = s.cc := rfl
@[simp] theorem State.mp_freeMemory (s : State) : (s.freeMemory).mp = { s.mp with op := none } := rfl
@[simp] theorem State.sw_freeMemory (s : State) : (s.freeMemory).sw = s.sw := rfl
@[simp] theorem State.fu_freeMemory (s : State) : (s.freeMemory).fu = s.fu := rfl
@[simp] theorem State.mi_freeMemory (s : State) : (s.freeMemory).mi = s.mi := rfl
@[simp] theorem State.pins_freeMemory (s : State) : (s.freeMemory).pins = s.pins := rfl
@[simp] theorem State.out_freeMemory (s : State) : (s.freeMemory).out = s.out := rfl
@[simp] theorem State.mem_freeMemory (s : State) : (s.freeMemory).mem = s.mem := rfl
@[simp] theorem State.freeCount_freeMemory (s : State) : (s.freeMemory).freeCount = s.freeCount := rfl
@[simp] theorem State.pending_freeMemory (s : State) : (s.freeMemory).pending = s.pending := rfl
@[simp] theorem State.slot_freeMemory (s : State) (m : Slot) :
    (s.freeMemory).slot m = s.slot m := rfl

/-! `State.arbitrate`. -/

@[simp] theorem State.slots_arbitrate (s : State) : (s.arbitrate).slots = s.slots := rfl
@[simp] theorem State.acc_arbitrate (s : State) : (s.arbitrate).acc = s.acc := rfl
@[simp] theorem State.su_arbitrate (s : State) : (s.arbitrate).su = s.su := rfl
@[simp] theorem State.directory_arbitrate (s : State) : (s.arbitrate).directory = s.directory := rfl
@[simp] theorem State.cc_arbitrate (s : State) : (s.arbitrate).cc = s.cc := rfl
@[simp] theorem State.mp_arbitrate (s : State) : (s.arbitrate).mp =
    { s.mp with due := s.grantee, besideSweep := s.grantee.isSome && s.sweepBeside } := rfl
@[simp] theorem State.sw_arbitrate (s : State) : (s.arbitrate).sw = s.sw := rfl
@[simp] theorem State.fu_arbitrate (s : State) : (s.arbitrate).fu = s.fu := rfl
@[simp] theorem State.mi_arbitrate (s : State) : (s.arbitrate).mi = s.mi := rfl
@[simp] theorem State.pins_arbitrate (s : State) : (s.arbitrate).pins = s.pins := rfl
@[simp] theorem State.out_arbitrate (s : State) : (s.arbitrate).out = s.out := rfl
@[simp] theorem State.mem_arbitrate (s : State) : (s.arbitrate).mem = s.mem := rfl
@[simp] theorem State.freeCount_arbitrate (s : State) : (s.arbitrate).freeCount = s.freeCount := rfl
@[simp] theorem State.pending_arbitrate (s : State) : (s.arbitrate).pending = s.pending := rfl
@[simp] theorem State.slot_arbitrate (s : State) (m : Slot) :
    (s.arbitrate).slot m = s.slot m := rfl

/-! `State.setStatus`. -/

@[simp] theorem State.slots_setStatus (s : State) (st : PortalStatus) : (s.setStatus st).slots = s.slots := rfl
@[simp] theorem State.acc_setStatus (s : State) (st : PortalStatus) : (s.setStatus st).acc = s.acc := rfl
@[simp] theorem State.su_setStatus (s : State) (st : PortalStatus) : (s.setStatus st).su = s.su := rfl
@[simp] theorem State.directory_setStatus (s : State) (st : PortalStatus) :
    (s.setStatus st).directory = s.directory := rfl
@[simp] theorem State.cc_setStatus (s : State) (st : PortalStatus) : (s.setStatus st).cc = s.cc := rfl
@[simp] theorem State.mp_setStatus (s : State) (st : PortalStatus) : (s.setStatus st).mp = s.mp := rfl
@[simp] theorem State.sw_setStatus (s : State) (st : PortalStatus) : (s.setStatus st).sw = s.sw := rfl
@[simp] theorem State.fu_setStatus (s : State) (st : PortalStatus) : (s.setStatus st).fu = s.fu := rfl
@[simp] theorem State.mi_setStatus (s : State) (st : PortalStatus) :
    (s.setStatus st).mi = { s.mi with status := st } := rfl
@[simp] theorem State.pins_setStatus (s : State) (st : PortalStatus) : (s.setStatus st).pins = s.pins := rfl
@[simp] theorem State.out_setStatus (s : State) (st : PortalStatus) : (s.setStatus st).out = s.out := rfl
@[simp] theorem State.mem_setStatus (s : State) (st : PortalStatus) : (s.setStatus st).mem = s.mem := rfl
@[simp] theorem State.freeCount_setStatus (s : State) (st : PortalStatus) :
    (s.setStatus st).freeCount = s.freeCount := rfl
@[simp] theorem State.pending_setStatus (s : State) (st : PortalStatus) : (s.setStatus st).pending = s.pending := rfl
@[simp] theorem State.slot_setStatus (s : State) (st : PortalStatus) (m : Slot) :
    (s.setStatus st).slot m = s.slot m := rfl

/-! A stage change as the slots see it (R47). -/

@[simp] theorem State.slot_changeStage_self (s : State) (n : Slot) (st : Stage) :
    (s.changeStage n st).slot n = (s.slot n).enter st (s.queuedOf n) s.su.timing.guardInterval.toNat := by
  simp [State.changeStage]

@[simp] theorem State.slot_changeStage_of_ne (s : State) (n m : Slot) (st : Stage) (h : m ≠ n) :
    (s.changeStage n st).slot m = s.slot m := by
  simp [State.changeStage, h]

@[simp] theorem State.slot_releaseKey_self (s : State) (n : Slot) :
    (s.releaseKey n).slot n = { s.slot n with keyEst := false } :=
  State.slot_modSlot_self s n fun r => { r with keyEst := false }

@[simp] theorem State.slot_releaseKey_of_ne (s : State) (n m : Slot) (h : m ≠ n) :
    (s.releaseKey n).slot m = s.slot m :=
  State.slot_modSlot_of_ne s n m (fun r => { r with keyEst := false }) h

/-! Vectors built through lists. -/

@[simp] theorem getElem_mapVector {α β : Type} {n : Nat} (f : α → β) (v : Vector α n) (k : Nat) (h : k < n) :
    (mapVector f v)[k] = f v[k] := by
  simp [mapVector]

@[simp] theorem getElem_buildVector {α : Type} (n : Nat) (f : Fin n → α) (k : Nat) (h : k < n) :
    (buildVector n f)[k] = f ⟨k, h⟩ := by
  simp [buildVector]

end Sys2Proof.Machine
end

