-- ==== Sys2Proof/Laws/Memory.lean ====
section
/-! SUPPORT. Staging memory: every operation keeps the canonical form; what a byte reads after a write. -/

namespace Sys2Proof.Machine

theorem Memory.wf_nil : Memory.wf [] := by
  simp [Memory.wf]

/-- The canonical form, one cell at a time. -/
theorem Memory.wf_cons (c : Host.Cell) (m : Memory) :
    Memory.wf (c :: m) ↔ (∀ x ∈ m, c.1 < x.1) ∧ c.2 ≠ Config.unwrittenByte ∧ Memory.wf m := by
  simp only [Memory.wf, List.pairwise_cons, List.forall_mem_cons]
  tauto

/-- A byte below every listed address is unwritten. -/
theorem Memory.read_of_lt (m : Memory) (a : Nat) (h : ∀ x ∈ m, a < x.1) : m.read a = Config.unwrittenByte := by
  induction m with
  | nil => rfl
  | cons c rest ih =>
    have hc : a ≠ c.1 := (h c (by simp)).ne
    simp only [Memory.read, hc, if_false]
    exact ih fun x hx => h x (by simp [hx])

/-- A write lists no address but its own and those listed before. -/
theorem Memory.mem_write (m : Memory) (a : Nat) (b : Byte) (x : Host.Cell) (h : x ∈ m.write a b) :
    x ∈ m ∨ x = (a, b) ∧ b ≠ Config.unwrittenByte := by
  induction m with
  | nil =>
    by_cases hb : b = Config.unwrittenByte
    · simp [Memory.write, hb] at h
    · simp [Memory.write, hb] at h
      exact Or.inr ⟨h, hb⟩
  | cons c rest ih =>
    unfold Memory.write at h
    split_ifs at h
    all_goals simp only [List.mem_cons] at h ⊢
    all_goals tauto

/-- A write keeps the canonical form. -/
theorem Memory.wf_write (m : Memory) (a : Nat) (b : Byte) (h : m.wf) : (m.write a b).wf := by
  induction m with
  | nil =>
    by_cases hb : b = Config.unwrittenByte <;> simp [Memory.write, Memory.wf, hb]
  | cons c rest ih =>
    obtain ⟨hlt, hc, hrest⟩ := (Memory.wf_cons c rest).mp h
    unfold Memory.write
    split_ifs with h1 h2 h3 h4
    · exact h
    · refine (Memory.wf_cons _ _).mpr ⟨?_, h2, h⟩
      intro x hx
      rcases List.mem_cons.mp hx with rfl | hx
      · exact h1
      · exact h1.trans (hlt x hx)
    · exact hrest
    · exact (Memory.wf_cons _ _).mpr ⟨fun x hx => h3 ▸ hlt x hx, h4, hrest⟩
    · refine (Memory.wf_cons _ _).mpr ⟨?_, hc, ih hrest⟩
      intro x hx
      rcases Memory.mem_write rest a b x hx with hx | ⟨rfl, _⟩
      · exact hlt x hx
      · exact lt_of_le_of_ne (Nat.le_of_not_lt h1) (Ne.symm h3)

/-- What a byte reads after a write: the byte written at its address, what it read before at any other. -/
theorem Memory.read_write (m : Memory) (a x : Nat) (b : Byte) (h : m.wf) :
    (m.write a b).read x = if x = a then b else m.read x := by
  induction m with
  | nil =>
    by_cases hb : b = Config.unwrittenByte
    · simp [Memory.write, Memory.read, hb]
    · by_cases hx : x = a <;> simp [Memory.write, Memory.read, hb, hx]
  | cons c rest ih =>
    obtain ⟨hlt, _, hrest⟩ := (Memory.wf_cons c rest).mp h
    have below : a < c.1 → (Memory.read (c :: rest) a) = Config.unwrittenByte := by
      intro hac
      refine Memory.read_of_lt _ _ fun y hy => ?_
      rcases List.mem_cons.mp hy with rfl | hy
      · exact hac
      · exact hac.trans (hlt y hy)
    unfold Memory.write
    by_cases hac : a < c.1
    · by_cases hb : b = Config.unwrittenByte
      · by_cases hx : x = a
        · simp only [hac, hb, hx, if_true]
          exact below hac
        · simp [hac, hb, hx]
      · by_cases hx : x = a <;> simp [Memory.read, hac, hb, hx]
    · by_cases heq : a = c.1
      · by_cases hb : b = Config.unwrittenByte
        · by_cases hx : x = c.1
          · simp only [heq, hb, hx, Nat.lt_irrefl, if_true, if_false]
            exact Memory.read_of_lt _ _ hlt
          · simp [Memory.read, heq, hb, hx]
        · by_cases hx : x = c.1 <;> simp [Memory.read, heq, hb, hx]
      · by_cases hx : x = c.1
        · have hxa : x ≠ a := fun e => heq (e.symm.trans hx)
          have hca : c.1 ≠ a := fun e => heq e.symm
          simp [Memory.read, hac, heq, hx, hca]
        · simp [Memory.read, hac, heq, hx, ih hrest]

/-! Runs of bytes. -/

/-- Writing bytes keeps the canonical form. -/
theorem Memory.wf_writeBytes (m : Memory) (a : Nat) (bytes : List Byte) (h : m.wf) : (m.writeBytes a bytes).wf := by
  induction bytes generalizing m a with
  | nil => exact h
  | cons b rest ih => exact ih _ _ (Memory.wf_write m a b h)

/-- What a byte reads after bytes are written from an address up. -/
theorem Memory.read_writeBytes (m : Memory) (a x : Nat) (bytes : List Byte) (h : m.wf) :
    (m.writeBytes a bytes).read x =
      if a ≤ x ∧ x < a + bytes.length then bytes.getD (x - a) 0#8 else m.read x := by
  induction bytes generalizing m a with
  | nil =>
    have : ¬(a ≤ x ∧ x < a + 0) := by omega
    simp only [Memory.writeBytes, List.length_nil, this, if_false]
  | cons b rest ih =>
    rw [Memory.writeBytes, ih _ _ (Memory.wf_write m a b h), Memory.read_write m a x b h]
    simp only [List.length_cons]
    by_cases hlow : x = a
    · subst hlow
      have h1 : ¬(x + 1 ≤ x ∧ x < x + 1 + rest.length) := by omega
      have h2 : x ≤ x ∧ x < x + (rest.length + 1) := by omega
      simp [h2]
    · by_cases hin : a + 1 ≤ x ∧ x < a + 1 + rest.length
      · have h2 : a ≤ x ∧ x < a + (rest.length + 1) := by omega
        have h3 : x - a = (x - (a + 1)) + 1 := by omega
        simp [hin, h2, h3]
      · have h2 : ¬(a ≤ x ∧ x < a + (rest.length + 1)) := by omega
        rw [if_neg hin, if_neg hlow, if_neg h2]

/-- A byte outside the bytes written reads as before. -/
theorem Memory.read_writeBytes_of_outside (m : Memory) (a x : Nat) (bytes : List Byte) (h : m.wf)
    (hx : ¬(a ≤ x ∧ x < a + bytes.length)) : (m.writeBytes a bytes).read x = m.read x := by
  rw [Memory.read_writeBytes m a x bytes h, if_neg hx]

/-! Memory's part in the shared operations. -/

/-- Everything a performed write can do: its bytes land, within the fitted memory, and nothing else changes. -/
theorem State.performWrite_next (s t : State) (pa : Nat) (bytes : List Byte)
    (h : s.performWrite pa bytes = .next t) :
    s.inMemory pa bytes.length = true ∧ t = { s with mem := s.mem.writeBytes pa bytes } := by
  unfold State.performWrite at h
  split_ifs at h with hin
  exact ⟨hin, (Host.Outcome.next.inj h).symm⟩

/-- Everything a performed read can do. -/
theorem State.performRead_next (s t : State) (pa size : Nat) (k : List Byte → State)
    (h : s.performRead pa size k = .next t) :
    s.inMemory pa size = true ∧ t = k (s.mem.readBytes pa size) := by
  unfold State.performRead at h
  split_ifs at h with hin
  exact ⟨hin, (Host.Outcome.next.inj h).symm⟩

/-- Spoiling bytes keeps the canonical form. -/
theorem State.wf_spoil (s : State) (pa n : Nat) (h : s.mem.wf) : (s.spoil pa n).mem.wf := by
  unfold State.spoil
  split_ifs
  · exact Memory.wf_writeBytes _ _ _ h
  · exact h

/-- A torn write keeps the canonical form. -/
theorem State.wf_tear (s : State) (pa : Nat) (bytes : List Byte) (h : s.mem.wf) : (s.tear pa bytes).mem.wf := by
  unfold State.tear
  split_ifs
  · exact Memory.wf_writeBytes _ _ _ h
  · exact h

/-- Memory after reset is in its canonical form. -/
theorem State.wf_reset : State.reset.mem.wf := Memory.wf_nil

end Sys2Proof.Machine
end

