-- ==== Sys2Proof/Laws/Ops.lean ====
section
/-! SUPPORT. What each shared operation does, as one equation or one equivalence each, for a proof to cite in place of its definition. -/

namespace Sys2Proof.Machine

/-! Equality of states. -/

/-- Two states with equal fields are equal. -/
theorem State.eq_of_fields {s t : State} (h1 : s.slots = t.slots) (h2 : s.acc = t.acc) (h3 : s.su = t.su)
    (h4 : s.directory = t.directory) (h5 : s.cc = t.cc) (h6 : s.mp = t.mp) (h7 : s.sw = t.sw) (h8 : s.fu = t.fu)
    (h9 : s.mi = t.mi) (h10 : s.pins = t.pins) (h11 : s.out = t.out) (h12 : s.mem = t.mem)
    (h13 : s.freeCount = t.freeCount) (h14 : s.pending = t.pending) : s = t := by
  cases s; cases t; simp_all

/-- Writing back the record of a slot changes nothing. -/
theorem State.set_slot_self (s : State) (n : Slot) : s.slots.set n.val (s.slot n) = s.slots := by
  unfold State.slot; simp

/-- The record of a slot that has just been written. -/
theorem State.slot_of_set (s : State) (v : Vector SlotRec 64) (n : Slot) (r : SlotRec) (h : s.slots = v.set n.val r) :
    s.slot n = r := by
  unfold State.slot; simp only [h]; simp

/-- The record of a slot after all have been changed. -/
theorem mapVector_get (f : SlotRec → SlotRec) (v : Vector SlotRec 64) (n : Slot) :
    (mapVector f v)[n.val] = f v[n.val] := by
  simp [mapVector]

/-! A step of a bridge out of reset, and in reset (R185). -/

theorem State.whenUp_of_up (s : State) (h : s.pins.resetLow = false) (f : State → State) :
    s.whenUp f = f { s with out := BusOut.quiet } := by
  simp [State.whenUp, h, State.quiet]

theorem State.whenUp_of_reset (s : State) (h : s.pins.resetLow = true) (f : State → State) :
    s.whenUp f = { s with out := BusOut.quiet } := by
  simp [State.whenUp, h, State.quiet]

theorem State.whenUpPerform_of_up (s : State) (h : s.pins.resetLow = false)
    (f : State → Host.Outcome State Fault Refusal) : s.whenUpPerform f = f { s with out := BusOut.quiet } := by
  simp [State.whenUpPerform, h, State.quiet]

theorem State.whenUpPerform_of_reset (s : State) (h : s.pins.resetLow = true)
    (f : State → Host.Outcome State Fault Refusal) :
    s.whenUpPerform f = .next { s with out := BusOut.quiet } := by
  simp [State.whenUpPerform, h, State.quiet]

/-! Memory left free (R131, R133). -/

/-- Beside memory and the number of the next free value, nothing changes. -/
theorem State.spoil_eq (s : State) (pa n : Nat) :
    s.spoil pa n = { s with mem := (s.spoil pa n).mem, freeCount := (s.spoil pa n).freeCount } := by
  unfold State.spoil
  by_cases h : s.inMemory pa n = true <;> simp only [h] <;> rfl

/-- No byte outside the failed write changes. -/
theorem State.read_spoil_of_outside (s : State) (pa n a : Nat) (hw : s.mem.wf) (h : ¬(pa ≤ a ∧ a < pa + n)) :
    (s.spoil pa n).mem.read a = s.mem.read a := by
  unfold State.spoil
  by_cases hi : s.inMemory pa n = true
  · simp only [hi, if_true]
    rw [Memory.read_writeBytes_of_outside _ _ _ _ hw]
    simpa using h
  · simp [hi]

/-- Beside memory and the number of the next free value, a torn write changes nothing. -/
theorem State.tear_eq (s : State) (pa : Nat) (bytes : List Byte) :
    s.tear pa bytes = { s with mem := (s.tear pa bytes).mem, freeCount := (s.tear pa bytes).freeCount } := by
  unfold State.tear
  by_cases h : s.inMemory pa bytes.length = true <;> simp only [h] <;> rfl

/-- A byte of a torn write is the old one or the new one; any other byte is as before (R139). -/
theorem State.read_tear (s : State) (pa a : Nat) (bytes : List Byte) (hw : s.mem.wf) :
    (s.tear pa bytes).mem.read a = s.mem.read a ∨
      (pa ≤ a ∧ a < pa + bytes.length) ∧ (s.tear pa bytes).mem.read a = bytes.getD (a - pa) 0#8 := by
  unfold State.tear
  by_cases hi : s.inMemory pa bytes.length = true
  · simp only [hi, if_true, Memory.read_writeBytes _ _ _ _ hw, List.length_map, List.length_range]
    by_cases ha : pa ≤ a ∧ a < pa + bytes.length
    · have hk : a - pa < bytes.length := by omega
      have he : pa + (a - pa) = a := by omega
      rw [if_pos ha, List.getD_eq_getElem?_getD, List.getElem?_map, List.getElem?_range hk]
      simp only [Option.map_some, Option.getD_some, he]
      split
      · exact Or.inr ⟨ha, rfl⟩
      · exact Or.inl rfl
    · rw [if_neg ha]; exact Or.inl rfl
  · simp [hi]

/-- What the assertion of RESET_N does before custody state is reset (log 16). -/
theorem State.cutOff_eq (s : State) : s.cutOff = { s with mem := s.cutOff.mem, freeCount := s.cutOff.freeCount } := by
  unfold State.cutOff
  split
  · split
    · exact State.tear_eq _ _ _
    · rfl
  · exact State.tear_eq _ _ _
  · rfl

/-! Slots and stage changes (R47, R61). -/

theorem State.modSlot_eq (s : State) (n : Slot) (f : SlotRec → SlotRec) :
    s.modSlot n f = { s with slots := s.slots.set n.val (f (s.slot n)) } := rfl

theorem timerOf_toNat (w : Word) : timerOf w.toNat = if w = 0#16 then none else some (w.toNat + 1) := by
  unfold timerOf
  by_cases h : w = 0#16
  · subst h; rfl
  · have : w.toNat ≠ 0 := fun e => h (BitVec.eq_of_toNat_eq (by rw [e]; rfl))
    rw [if_neg h, if_neg this]

/-- Entry to a guarded stage. -/
theorem SlotRec.enter_guarded (r : SlotRec) (st : Stage) (hg : st.guarded = true) (k : Nat) (w : Word) :
    r.enter st k w.toNat =
      { r with
        stage := st
        heldFrom := none
        guardTimer := if w = 0#16 then none else some (w.toNat + 1)
        drainCount := k } := by
  unfold SlotRec.enter
  rw [← timerOf_toNat]
  have hd : st.drained = true := by revert hg; cases st <;> decide
  have hh : st ≠ .held := by intro e; rw [e] at hg; exact absurd hg (by decide)
  simp only [hg, hd, if_neg hh, if_true]

theorem SlotRec.enter_vacant (r : SlotRec) (k g : Nat) :
    r.enter .vacant k g = { r with stage := .vacant, heldFrom := none, guardTimer := none, drainCount := 0 } := rfl

theorem SlotRec.enter_sweeping (r : SlotRec) (k g : Nat) :
    r.enter .sweeping k g = { r with stage := .sweeping, heldFrom := none, guardTimer := none, drainCount := k } := rfl

theorem SlotRec.enter_held (r : SlotRec) (k g : Nat) :
    r.enter .held k g =
      { r with stage := .held, heldFrom := some r.stage, guardTimer := none, drainCount := 0 } := rfl

/-- THE STAGE CHANGE touches the slot's record and the locks on the slot, and nothing else. -/
theorem State.changeStage_eq (s : State) (n : Slot) (st : Stage) :
    s.changeStage n st =
      { s with
        slots := s.slots.set n.val ((s.slot n).enter st (s.queuedOf n) s.su.timing.guardInterval.toNat)
        acc := s.locksOff n } := rfl

/-- Entry to VACANT from LOADED or SWEEPING (R17). -/
theorem State.vacate_eq (s : State) (n : Slot) :
    s.vacate n = { s with slots := s.slots.set n.val (s.slot n).emptied, acc := s.locksOff n } := by
  unfold State.vacate
  rw [State.changeStage_eq, State.modSlot_eq]
  apply State.eq_of_fields <;> try rfl
  show (s.slots.set n.val _).set n.val _ = _
  rw [Vector.set_set]; congr 1
  rw [State.slot_of_set _ s.slots _ _ rfl, SlotRec.enter_vacant]; rfl

theorem State.slot_releaseKey (s : State) (n m : Slot) :
    (s.releaseKey n).slot m = if m = n then { s.slot n with keyEst := false } else s.slot m := by
  show (s.modSlot n fun r => { r with keyEst := false }).slot m = _
  rw [State.slot_modSlot]

/-! Links (R89, R90). -/

/-- The first part of an unlinking: the predecessor's half of the pair. -/
def State.unlinkPred (s : State) (n : Slot) : State :=
  match (s.slot n).pred with
  | some p => s.modSlot p fun r => { r with succ := none }
  | none => s

/-- The second part: the successor's half, by the links that stood in `s`. -/
def State.unlinkSucc (s t : State) (n : Slot) : State :=
  match (s.slot n).succ with
  | some p => t.modSlot p fun r => { r with pred := none }
  | none => t

theorem State.slot_unlinkPred (s : State) (n m : Slot) :
    (s.unlinkPred n).slot m =
      { s.slot m with succ := if (s.slot n).pred = some m then none else (s.slot m).succ } := by
  unfold State.unlinkPred
  rcases (s.slot n).pred with _ | p
  · simp only [reduceCtorEq, if_false]
  · simp only [Option.some.injEq, State.slot_modSlot]
    by_cases h : m = p
    · subst h; simp only [if_true]
    · rw [if_neg h, if_neg (Ne.symm h)]

theorem State.slot_unlinkSucc (s t : State) (n m : Slot) :
    (s.unlinkSucc t n).slot m =
      { t.slot m with pred := if (s.slot n).succ = some m then none else (t.slot m).pred } := by
  unfold State.unlinkSucc
  rcases (s.slot n).succ with _ | p
  · simp only [reduceCtorEq, if_false]
  · simp only [Option.some.injEq, State.slot_modSlot]
    by_cases h : m = p
    · subst h; simp only [if_true]
    · rw [if_neg h, if_neg (Ne.symm h)]

/-- Every slot's record after a slot has left its chain. -/
theorem State.slot_unlink (s : State) (n m : Slot) :
    (s.unlink n).slot m = if m = n then { s.slot n with pred := none, succ := none } else s.cutFrom n m := by
  show ((s.unlinkSucc (s.unlinkPred n) n).modSlot n fun r => { r with pred := none, succ := none }).slot m = _
  rw [State.slot_modSlot]
  by_cases h : m = n
  · rw [if_pos h, if_pos h, State.slot_unlinkSucc, State.slot_unlinkPred]
  · rw [if_neg h, if_neg h, State.slot_unlinkSucc, State.slot_unlinkPred]; rfl

/-- Unlinking touches slot records alone. -/
theorem State.unlink_eq (s : State) (n : Slot) : s.unlink n = { s with slots := (s.unlink n).slots } := by
  have : ∃ v, s.unlink n = { s with slots := v } := by
    unfold State.unlink
    rcases (s.slot n).pred with _ | p <;> rcases (s.slot n).succ with _ | k <;> exact ⟨_, rfl⟩
  obtain ⟨v, h⟩ := this; rw [h]

/-- A slot released from its key and its chain enters SWEEPING (R51, R53). -/
theorem State.sweepOff_eq (s : State) (n : Slot) :
    ∃ v : Vector SlotRec 64,
      (∀ m : Slot, v[m.val] = if m = n then s.leaving n else s.cutFrom n m) ∧
        ((s.releaseKey n).unlink n).changeStage n .sweeping =
          { s with slots := v, acc := s.locksOff n, directory := s.directory.filter fun e => e.slot != n } := by
  refine ⟨(((s.releaseKey n).unlink n).changeStage n .sweeping).slots, fun m => ?_, ?_⟩
  · rw [State.changeStage_eq]
    by_cases h : m = n
    · subst h
      show State.slot _ m = _
      rw [State.slot_of_set _ _ _ _ rfl, SlotRec.enter_sweeping, State.slot_unlink, if_pos rfl, if_pos rfl,
        State.slot_releaseKey, if_pos rfl, State.unlink_eq]
      rfl
    · rw [if_neg h]
      have hv : n.val ≠ m.val := fun e => h (Fin.ext e.symm)
      have key : ∀ (y : State) (r : SlotRec),
          ({ y with slots := y.slots.set n.val r, acc := y.locksOff n } : State).slot m = y.slot m := by
        intro y r; unfold State.slot; simp [hv]
      show State.slot _ m = _
      rw [key, State.slot_unlink, if_neg h]
      unfold State.cutFrom
      rw [State.slot_releaseKey, if_neg h, State.slot_releaseKey, if_pos rfl]
  · rw [State.changeStage_eq, State.unlink_eq]; rfl

/-! The freeze order list and the sweep queue (R97, R98, R101, R138). -/

theorem State.takeUpFreeze_eq (s : State) :
    s.takeUpFreeze =
      { s with cc := { s.cc with freeze := nextFreeze s.cc.freezeList s.cc.freeze s.mp.op } } := by
  unfold State.takeUpFreeze nextFreeze
  rcases hf : s.cc.freeze with _ | f
  · rcases hl : s.cc.freezeList with _ | ⟨n, rest⟩
    · simp only
      by_cases ho : s.mp.op.any MemOp.isFreezeRead = true
      · rw [if_pos ho]; cases s; cases ‹CardCheck›; simp_all
      · rw [if_neg ho]; cases s; cases ‹CardCheck›; simp_all
    · simp only
      by_cases ho : s.mp.op.any MemOp.isFreezeRead = true
      · rw [if_pos ho, if_pos ho]; cases s; cases ‹CardCheck›; simp_all
      · rw [if_neg ho, if_neg ho]; simp [hl]
  · simp only; cases s; cases ‹CardCheck›; simp_all

theorem State.abandonFreeze_eq (s : State) (n : Slot) :
    s.abandonFreeze n = { s with cc := s.cc.without n s.mp.op, mp := s.mp.withoutFreeze s.cc n } := by
  unfold State.abandonFreeze
  by_cases h : (s.cc.freeze.any fun f => f.slot == n) = true
  · simp only [h, if_true, State.takeUpFreeze_eq]
    unfold CardCheck.without MemoryPort.withoutFreeze
    simp only [h, if_true]
    have key : ∀ l, nextFreeze l none (s.mp.op.map MemOp.abandonFreeze) = nextFreeze l none s.mp.op := by
      intro l; unfold nextFreeze
      have : (s.mp.op.map MemOp.abandonFreeze).any MemOp.isFreezeRead = s.mp.op.any MemOp.isFreezeRead := by
        rcases s.mp.op with _ | o
        · rfl
        · cases o <;> rfl
      rw [this]
    rw [key]
  · simp only [h, State.takeUpFreeze_eq]
    unfold CardCheck.without MemoryPort.withoutFreeze
    simp only [h]
    rfl

theorem State.abandonSweep_eq (s : State) (n : Slot) :
    s.abandonSweep n = { s with sw := s.sw.without n, mp := s.mp.withoutSweep s.sw n } := by
  unfold State.abandonSweep SweepEngine.without MemoryPort.withoutSweep
  by_cases h : (s.sw.sweep.any fun w => w.slot == n) = true
  · simp only [h, if_true]
  · simp only [h]; rfl

/-- THE HOLD (R54). -/
theorem State.hold_eq (s : State) (n : Slot)
    (hst : (s.slot n).stage ∈ [Stage.scanning, .decoding, .composing, .freezing, .frozen, .verified, .sweeping]) :
    s.hold n =
      { s with
        slots := s.slots.set n.val
          { s.slot n with
            stage := .held
            heldFrom := some (s.slot n).stage
            guardTimer := none
            drainCount := 0
            retryTimer := if (s.slot n).stage = .frozen then none else (s.slot n).retryTimer }
        acc := s.locksOff n
        su :=
          { s.su with
            verified :=
              if (s.slot n).stage = .verified then s.su.verified.filter fun m => m != n else s.su.verified }
        cc := if (s.slot n).stage = .freezing then s.cc.without n s.mp.op else s.cc
        mp :=
          if (s.slot n).stage = .freezing then s.mp.withoutFreeze s.cc n
          else if (s.slot n).stage = .sweeping then s.mp.withoutSweep s.sw n
          else s.mp
        sw := if (s.slot n).stage = .sweeping then s.sw.without n else s.sw } := by
  unfold State.hold State.undoForHold
  rcases hs : (s.slot n).stage <;> rw [hs] at hst
  all_goals first
    | (exact absurd hst (by decide))
    | skip
  all_goals simp only [State.abandonFreeze_eq, State.abandonSweep_eq, State.modSlot_eq, State.changeStage_eq,
    SlotRec.enter_held, State.slot, Vector.getElem_set_self, Vector.set_set, reduceCtorEq, if_true, if_false]
  all_goals
    have hs' : s.slots[n.val].stage = _ := hs
    try simp only [hs']
    try first
      | rfl
      | (simp only [State.leaveVerified, hs']; rfl)

/-! Reports, latches, locks, responses. -/

theorem State.report_eq (s : State) (r : Report) : s.report r = { s with fu := s.fu.push r } := rfl

theorem State.endLock_eq (s : State) (c : Bool) (n : Slot) (t : Tag) :
    s.endLock c n t = { s with acc := s.locksAfter c n t } := by
  unfold State.endLock State.locksAfter; cases c <;> rfl

theorem State.deny_quiet (s : State) (a : Access) :
    ({ s with out := BusOut.quiet } : State).deny a =
      { s with
        acc := s.locksAfter (a.wr && a.lclose) a.slot a.tag
        out := BusOut.respond .denied (if a.wr then [] else List.replicate a.size 0#8) } := by
  unfold State.deny; rw [State.endLock_eq]; rfl

theorem State.wait_quiet (s : State) :
    ({ s with out := BusOut.quiet } : State).wait = { s with out := BusOut.respond .wait [] } := rfl

theorem State.enqueue_eq (s : State) (a : Access) (overlay : Bool) :
    s.enqueue a overlay = { s with mp := s.mp.push (s.entryFor a overlay) } := by
  unfold State.enqueue MemoryPort.push State.entryFor Access.bytes; rfl

/-- A slot joins the verified queue: a read that returned an earlier entry of it removes nothing further (R60, R181). -/
theorem Sending.rejoined_of_ne (x : Sending) (n : Slot) (h : ∀ gone, x ≠ .verifiedWord (some n) gone) : x.rejoined n = x := by
  rcases x with _ | _ | ⟨_ | m, g⟩ | _ <;> try rfl
  have : m ≠ n := fun e => h g (by rw [e])
  simp [Sending.rejoined, this]

theorem Sending.latchedAgain_eq (x : Sending) (c : Cause) : x.latchedAgain c = x.afterLatching [c] := by
  rcases x with _ | _ | _ | ⟨_ | d, a⟩ <;> try rfl
  simp only [Sending.latchedAgain, Sending.afterLatching]
  cases a <;> cases c <;> cases d <;> rfl

theorem Sending.afterLatching_append (x : Sending) (l m : List Cause) :
    (x.afterLatching l).afterLatching m = x.afterLatching (l ++ m) := by
  rcases x with _ | _ | _ | ⟨_ | d, a⟩ <;> try rfl
  simp only [Sending.afterLatching, List.contains_eq_mem, List.mem_append, Bool.decide_or, Bool.or_assoc]

/-- Latching several causes touches the latches and what is being sent of ALERT CAUSE. -/
theorem State.latch_all (s : State) (l : List Cause) :
    ∃ v, s.fu.latchesWith l v ∧
      l.foldl State.latch s =
        { s with
          fu := { s.fu with latches := v }
          mi := { s.mi with sending := s.mi.sending.map fun y => y.afterLatching l } } := by
  induction l generalizing s with
  | nil =>
    refine ⟨s.fu.latches, fun c => by simp, ?_⟩
    have : (fun y : Sending => y.afterLatching []) = id := by
      funext y; rcases y with _ | _ | _ | ⟨_ | d, a⟩ <;> simp [Sending.afterLatching]
    rw [this, Option.map_id]; rfl
  | cons c l ih =>
    obtain ⟨v, hv, hx⟩ := ih (s.latch c)
    refine ⟨v, fun d => ?_, ?_⟩
    · rw [hv d]
      simp only [State.latch, List.contains_eq_mem, List.mem_cons]
      by_cases hd : d = c
      · subst hd; simp
      · have : c.place.val ≠ d.place.val := by
          intro e; apply hd; revert e; cases c <;> cases d <;> decide
        simp [hd, this]
    · show l.foldl State.latch (s.latch c) = _
      rw [hx]
      simp only [State.latch, Option.map_map]
      congr 2
      congr 1
      funext y
      simp only [Function.comp, Sending.latchedAgain_eq, Sending.afterLatching_append]; rfl

/-- The latches of a law are determined by it. -/
theorem FaultUnit.latchesWith_unique (fu : FaultUnit) (l : List Cause) (v v' : Vector Bool 7)
    (h : fu.latchesWith l v) (h' : fu.latchesWith l v') : v = v' := by
  apply Vector.ext
  intro i hi
  have hc : ∃ c : Cause, c.place.val = i := by
    interval_cases i
    exacts [⟨.blockEntered, rfl⟩, ⟨.memoryError, rfl⟩, ⟨.slotHeld, rfl⟩, ⟨.logOverflow, rfl⟩, ⟨.faultReported, rfl⟩,
      ⟨.slotVerified, rfl⟩, ⟨.sweepDone, rfl⟩]
  obtain ⟨c, rfl⟩ := hc
  rw [h c, h' c]

/-! The arbiter (R128). -/

/-- Settling touches the arbiter's choice alone. -/
theorem State.arbitrate_eq (s : State) :
    s.arbitrate =
      { s with mp := { s.mp with due := s.grantee, besideSweep := s.grantee.isSome && s.sweepBeside } } := rfl

/-- A write that memory performs does not bear on whose grant is next. -/
theorem State.performWrite_arbitrate (s : State) (pa : Nat) (bytes : List Byte) (h : s.inMemory pa bytes.length = true) :
    s.arbitrate.performWrite pa bytes = .next (State.arbitrate { s with mem := s.mem.writeBytes pa bytes }) := by
  unfold State.performWrite
  rw [if_pos (show s.arbitrate.inMemory pa bytes.length = true from h)]; rfl

/-- A busy memory has no next grant. -/
theorem State.grantee_of_busy (s : State) (h : s.mp.op ≠ none) : s.grantee = none := by
  unfold State.grantee
  rcases ho : s.mp.op with _ | o
  · exact absurd ho h
  · rfl

/-- The requester settled on keeps its grant while it asks. -/
theorem State.grantee_of_due (s : State) (r : Requester) (hf : s.mp.op = none) (hd : s.mp.due = some r) (ha : s.asks r = true) :
    s.grantee = some r := by
  simp [State.grantee, hf, hd, ha]

/-- With none settled on, or one that has ceased to ask, the table decides. -/
theorem State.grantee_of_table (s : State) (hf : s.mp.op = none) (hd : ∀ r, s.mp.due = some r → s.asks r = false) :
    s.grantee = s.byTable := by
  have : s.mp.due.any s.asks = false := by
    rcases h : s.mp.due with _ | r
    · rfl
    · exact hd r h
  simp [State.grantee, hf, this]

/-- Once settled, the moment of the grant does not move while its requester asks (R129). -/
theorem State.sweepBeside_of_due (s : State) (r : Requester) (hd : s.mp.due = some r) (ha : s.asks r = true) :
    s.sweepBeside = s.mp.besideSweep := by
  simp [State.sweepBeside, hd, ha]

/-- With none settled on, or one that has ceased to ask, the moment of the grant is now. -/
theorem State.sweepBeside_of_table (s : State) (hd : ∀ r, s.mp.due = some r → s.asks r = false) :
    s.sweepBeside = s.asks .sweepEngine := by
  have : s.mp.due.any s.asks = false := by
    rcases h : s.mp.due with _ | r
    · rfl
    · exact hd r h
  simp [State.sweepBeside, this, State.asks]

/-! The timebase (R122, R185). -/

/-- Locks that expire one after another: each leaves, and an EXPIRED report follows each in their order (R122). -/
theorem State.expireLocks_eq (ls : List Lock) (s : State) :
    ls.foldl State.expireLock s =
      { s with
        acc := { s.acc with locks := s.acc.locks.filter fun l => ls.all fun x => l.slot != x.slot }
        fu := { s.fu with reports := s.fu.reports ++ ls.map s.expiredReport } } := by
  induction ls generalizing s with
  | nil => simp
  | cons x ls ih =>
    rw [List.foldl_cons, ih]
    unfold State.expireLock State.dropLocksOn State.report
    simp only [List.filter_filter, List.all_cons, List.map_cons, List.append_assoc, List.singleton_append]
    congr 3
    funext l; exact Bool.and_comm _ _

/-- The locks that are left when those that are due have expired, no slot carrying two (R117). -/
theorem dueLocks_left (locks : List Lock) (h : (locks.map Lock.slot).Nodup) :
    (locks.filter fun l => (locks.filter fun x => x.ticks == 0).all fun x => l.slot != x.slot) =
      locks.filter fun l => l.ticks != 0 := by
  apply List.filter_congr
  intro l hl
  rw [Bool.eq_iff_iff, List.all_eq_true]
  simp only [List.mem_filter, beq_iff_eq, bne_iff_ne, and_imp]
  constructor
  · intro hx hz; exact hx l hl hz rfl
  · intro h0 x hx hz he
    exact h0 (List.inj_on_of_nodup_map h hl hx he ▸ hz)

/-! The ordered checks (R22). -/

theorem coversArea_iff (offset size : Nat) (area : Area) :
    coversArea offset size area = true ↔ ∃ k < size, areaOf (offset + k) = area := by
  simp [coversArea]

theorem State.lacking_isSome_iff (s : State) (a : Access) :
    (s.lacking a).isSome = true ↔
      ∃ k < a.size, hasRight (s.role a.tag) (s.slot a.slot).stage a.wr (areaOf (a.offset + k)) = false := by
  simp [State.lacking, Access.lackingArea]

/-- The area a PERMISSION fault names (R32). -/
theorem State.lacking_eq (s : State) (a : Access) (k : Nat) (hk : k < a.size)
    (h1 : hasRight (s.role a.tag) (s.slot a.slot).stage a.wr (areaOf (a.offset + k)) = false)
    (h2 : ∀ j < k, hasRight (s.role a.tag) (s.slot a.slot).stage a.wr (areaOf (a.offset + j)) = true) :
    s.lacking a = some (areaOf (a.offset + k)) := by
  unfold State.lacking Access.lackingArea
  rw [List.find?_map]
  have : (List.find?
      ((fun area => !hasRight (s.role a.tag) (s.slot a.slot).stage a.wr area) ∘ fun k => areaOf (a.offset + k))
      (List.range a.size)) = some k := by
    rw [List.find?_range_eq_some]
    refine ⟨by simp [h1], by simpa using hk, ?_⟩
    intro j hj; simp [h2 j hj]
  rw [this]; rfl

theorem State.lockedByOther_iff (s : State) (n : Slot) (t : Tag) :
    s.lockedByOther n t = true ↔ ∃ l ∈ s.acc.locks, l.slot = n ∧ l.tag ≠ t := by
  simp [State.lockedByOther]

theorem State.lockBy_isSome_iff (s : State) (t : Tag) :
    (s.lockBy t).isSome = true ↔ ∃ l ∈ s.acc.locks, l.tag = t := by
  simp [State.lockBy]

theorem State.lockOn_isNone_iff (s : State) (n : Slot) :
    (s.lockOn n).isNone = true ↔ ∀ l ∈ s.acc.locks, l.slot ≠ n := by
  simp [State.lockOn]

/-- The model's condition of a step is the one the manual's rules give (R23 to R37). -/
theorem State.stepHolds_iff (s : State) (a : Access) (k : Nat) (hk : k ∈ Finset.Icc 1 13) :
    s.stepHolds a k = true ↔ s.condition a k := by
  have isSome_ne : ∀ o : Option Nat, o.isSome = true ↔ o ≠ none := by intro o; cases o <;> simp
  obtain ⟨h1, h2⟩ := Finset.mem_Icc.mp hk
  interval_cases k
  · simp [State.stepHolds, State.condition, State.stopsBlocked]; tauto
  · simp [State.stepHolds, State.condition]
  · simp [State.stepHolds, State.condition, Access.isStatusRead]
  · simp [State.stepHolds, State.condition]
  · exact decide_eq_true_iff
  · simp [State.stepHolds, State.condition, Access.isStageWrite]
  · simp [State.stepHolds, State.condition]
  · simp [State.stepHolds, State.condition]
  · simp only [State.stepHolds, State.condition]; exact s.lacking_isSome_iff a
  · simp only [State.stepHolds, State.condition, Bool.or_eq_true, State.lockedByOther_iff, State.isSecond, State.isLate,
      Bool.and_eq_true, State.lockBy_isSome_iff, State.lockOn_isNone_iff, Bool.not_eq_true', and_assoc, or_assoc]
  · simp [State.stepHolds, State.condition, SlotRec.guardActive, SlotRec.drainFlag, isSome_ne]
  · simp only [State.stepHolds, State.condition, Bool.or_eq_true, State.punchWaits, State.readbackWaits,
      State.offSequence, State.isReadbackWrite, Bool.and_eq_true, coversArea_iff, State.chainWait, beq_iff_eq,
      bne_iff_ne, Bool.not_eq_true', isSome_ne]
    constructor
    · rintro ((⟨⟨⟨h1, h2⟩, h3⟩, h4⟩ | ⟨⟨⟨h1, h2⟩, h3⟩, h4⟩) | ⟨⟨⟨h1, h2⟩, h3⟩, h4⟩)
      · left; refine ⟨h1, h2, h3, ?_⟩
        revert h4; cases hp : (s.slot a.slot).pred <;> simp
      · right; exact ⟨h1, h2, h3, by tauto⟩
      · right; exact ⟨h1, h2, h3, by tauto⟩
    · rintro (⟨h1, h2, h3, p, h4, h5⟩ | ⟨h1, h2, h3, h4⟩)
      · left; left; refine ⟨⟨⟨h1, h2⟩, h3⟩, ?_⟩; rw [h4]; simp [h5]
      · rcases h4 with h | h | h | h
        · exact Or.inl (Or.inr ⟨⟨⟨h1, h2⟩, h3⟩, Or.inl (Or.inl h)⟩)
        · exact Or.inl (Or.inr ⟨⟨⟨h1, h2⟩, h3⟩, Or.inl (Or.inr h)⟩)
        · exact Or.inl (Or.inr ⟨⟨⟨h1, h2⟩, h3⟩, Or.inr h⟩)
        · exact Or.inr ⟨⟨⟨h1, h2⟩, h3⟩, h⟩
  · exact decide_eq_true_iff

/-- An access is what its deciding step makes of it. -/
theorem State.access_of_step (s : State) (a : Access) (d : Bool) (hn : a.noSize = false) :
    s.access a d = s.applyStep a d (s.decidingStep a) := by
  simp [State.access, hn]

/-! Writes handed to the Stage Unit (R28, R43, R44). -/

theorem StageRequest.ofCode_code (q : StageRequest) : StageRequest.ofCode q.code = some q := by cases q <;> rfl

theorem StageRequest.ofCode_eq_none (b : Byte) (h : ¬(0x11 ≤ b.toNat ∧ b.toNat ≤ 0x17)) :
    StageRequest.ofCode b = none := by
  have key : ∀ q : StageRequest, 0x11 ≤ q.code.toNat ∧ q.code.toNat ≤ 0x17 := by intro q; cases q <;> decide
  rcases hq : StageRequest.ofCode b with _ | q
  · rfl
  · have hb : q.code = b := by
      revert hq; unfold StageRequest.ofCode
      split_ifs <;> rintro ⟨⟩ <;> simp_all
    exact absurd (hb ▸ key q) h

/-- The one-byte write of a request code (R43). -/
theorem Access.ofRequest_facts (n : Slot) (t : Tag) (c : Bool) (b : Byte) :
    (Access.ofRequest n t c b).noSize = false ∧ (Access.ofRequest n t c b).slot = n ∧
      (Access.ofRequest n t c b).offset = 0 ∧ (Access.ofRequest n t c b).size = 1 ∧
      (Access.ofRequest n t c b).bytes = [b] := by
  have hn := n.isLt
  have ho : (Access.ofRequest n t c b).offset = 0 := by
    simp only [Access.offset, Access.aligned, Access.ofRequest, Access.size]
    simp [Config.windowSize]
  refine ⟨rfl, ?_, ho, rfl, ?_⟩
  · apply Fin.ext
    simp [Access.slot, Access.aligned, Access.ofRequest, Access.size, Config.windowSize, Fin.ofNat]
    omega
  · unfold Access.bytes; rw [ho]
    show [laneByte (b.setWidth 512) 0] = [b]
    congr 1
    unfold laneByte
    apply BitVec.eq_of_getLsbD_eq; intro i hi
    simp [hi]

theorem State.takeWrite_of_blocked (s : State) (w : StageWrite) (h : s.fu.bridge = .blocked) :
    s.takeWrite w =
      { s with
        acc := s.locksAfter w.lclose w.slot w.tag
        out := { s.out with resp := .denied, data := [] } } := by
  unfold State.takeWrite
  rw [if_pos h, State.endLock_eq]; rfl

theorem State.takeWrite_of_refused (s : State) (w : StageWrite) (hg : s.fu.bridge = .guarding) (detail : FaultDetail)
    (low : Nat) (hj : s.judgeWrite w = .refused detail low) :
    s.takeWrite w =
      { s with
        acc := s.locksAfter w.lclose w.slot w.tag
        fu := s.fu.push (s.requestReport w detail low)
        out := { s.out with resp := .denied, data := [] } } := by
  unfold State.takeWrite
  rw [if_neg (by rw [hg]; decide), hj]
  simp only [State.endLock_eq, State.report_eq]
  rfl

theorem State.takeWrite_of_taken (s : State) (q : StageRequest) (w : StageWrite) (hg : s.fu.bridge = .guarding)
    (ha : w.asks q) (ht : q.takenIn (s.slot w.slot) = true) (hj : s.judgeChain w.slot q = .taken q) :
    s.takeWrite w = (s.answer .accepted []).takeRequest w.slot w.tag q := by
  unfold State.takeWrite
  rw [if_neg (by rw [hg]; decide)]
  have : s.judgeWrite w = .taken q := by
    unfold State.judgeWrite
    have h1 : w.isRequestForm = true := by simp [StageWrite.isRequestForm, ha.1, ha.2.1]
    have h2 : StageRequest.ofCode w.code = some q := by rw [ha.2.2.1]; exact q.ofCode_code
    rw [h1, h2, ha.2.2.2]
    simp only [Bool.not_true, bne_self_eq_false, ht]
    exact hj
  rw [this]

/-! The management line (R169, R170, R174). -/

theorem joinBytes_eq (h b : Byte) : joinBytes h b = BitVec.ofNat 16 (h.toNat * 256 + b.toNat) := by
  have hb := b.isLt
  have hh := h.isLt
  unfold joinBytes
  have : (h.setWidth 16 <<< 8 ||| b.setWidth 16) = (h.setWidth 16 <<< 8 + b.setWidth 16) := by
    rw [BitVec.add_eq_or_of_and_eq_zero]
    ext i hi
    simp [BitVec.getElem_and, BitVec.getElem_shiftLeft, BitVec.getElem_setWidth]
    intro h1 h2
    exact BitVec.getLsbD_of_ge b _ (by omega)
  rw [this]
  apply BitVec.eq_of_toNat_eq
  simp only [BitVec.toNat_add, BitVec.toNat_shiftLeft, BitVec.toNat_setWidth, BitVec.toNat_ofNat]
  rw [Nat.shiftLeft_eq]; omega

/-- A half word is held, and does nothing more. -/
theorem State.intake_of_half (s : State) (i : Item) (w : WordIn) (act : State → Word → State) (m : Management)
    (h : s.mi.intake i w = (m, none)) : s.intake i w act = { s with mi := m } := by
  unfold State.intake; simp only [h]

/-- A completed word acts. -/
theorem State.intake_of_word (s : State) (i : Item) (w : WordIn) (act : State → Word → State) (m : Management) (v : Word)
    (h : s.mi.intake i w = (m, some v)) : s.intake i w act = act { s with mi := m } v := by
  unfold State.intake; simp only [h]

/-- Taking a byte or a word in leaves the portal's registers alone. -/
theorem Management.intake_portal (m : Management) (i : Item) (w : WordIn) :
    (m.intake i w).1.table = m.table ∧ (m.intake i w).1.mode = m.mode ∧ (m.intake i w).1.addr = m.addr ∧
      (m.intake i w).1.status = m.status := by
  unfold Management.intake Management.intakeHere Management.intakeAlone
  split
  · rcases m with ⟨l, it, bp, pb, sd, ot, ak, tb, md, ad, st⟩
    cases w <;> cases pb <;> simp only <;> (try split) <;> simp
  · cases w <;> simp [Management.ended, Management.fresh]

theorem tableSize_eq (t : Fin 8) : tableSize t = portalSize t := by revert t; decide

theorem State.takenWrite_eq (s : State) : s.takenWrite = { s with mi := s.mi.wrote } := by
  unfold State.takenWrite Management.wrote Management.stepped State.setStatus Management.nextAddr
  rw [tableSize_eq]
  rcases hm : s.mi.mode <;> simp [hm]

theorem State.completedRead_eq (s : State) (st : PortalStatus) :
    s.completedRead st = { s with mi := s.mi.didRead st } := by
  unfold State.completedRead Management.didRead Management.stepped State.setStatus Management.nextAddr
  rw [tableSize_eq]
  rcases hm : s.mi.mode <;> simp [hm]

/-- A value is chosen as its first byte begins (R170). -/
theorem State.readRow_begins (s : State) (i : Item) (width : Nat) (choose : State → Sending × List Byte)
    (mine : Sending → Bool) (finish : State → Sending → State) (h1 : s.mi.line = .reading) (h2 : s.mi.item = i)
    (h3 : s.mi.sending = none) :
    s.readRow i .begins width choose mine finish =
      { s with mi := { s.mi with sending := some (choose s).1, out := (choose s).2 } } := by
  have hr : s.mi.readingOf i = true := by simp [Management.readingOf, h1, h2]
  unfold State.readRow
  simp only [h3, hr, Option.isSome_none, Bool.and_false, Bool.false_eq_true, if_false]
  unfold Management.openRead; rw [hr]; rfl

/-- Its effects come when its last byte has been sent. -/
theorem State.readRow_sent (s : State) (i : Item) (width : Nat) (choose : State → Sending × List Byte)
    (mine : Sending → Bool) (finish : State → Sending → State) (x : Sending) (h : s.mi.sending = some x)
    (hm : mine x = true) :
    s.readRow i .sent width choose mine finish =
      { finish s x with mi := (finish s x).mi.endSending width } := by
  unfold State.readRow
  simp only [h, hm, if_true]

/-- A completed COMMAND word (R182). -/
theorem State.commandRow_of_word (s : State) (code : Word) (w : WordIn) (m : Management) (v : Word) (act : State → State)
    (h : s.mi.intake .command w = (m, some v)) :
    s.commandRow code w act =
      if v = code then act { s with mi := m }
      else if isCommandCode v then s
      else { s with mi := { m with acked := false } } := by
  unfold State.commandRow; simp only [h]

end Sys2Proof.Machine
end

