-- ==== Sys2Proof/WellFormed.lean ====
section
/-! DEFINITION. Which terms of `Instr` name an event of their row. The meanings are total: they run on the others too. -/

namespace Sys2Proof

/-- Only a write covering a STATUS byte, 000h–00Fh of its window, goes to the Stage Unit, which may take it in a later
event (R28). -/
def Access.coversStatusAsWrite (a : Access) : Bool :=
  a.wr && a.sizeCode != 7#3 &&
    decide (a.addr.toNat / 2 ^ a.sizeCode.toNat * 2 ^ a.sizeCode.toNat % 262144 < 16)

/-- The whole words that a row of the COMMAND item may carry: its own code, or a word that is no command (R182). -/
def WordIn.commandForm (w : WordIn) (code : Word) : Bool :=
  match w with
  | .word v => v == code || !(v == 1#16 || v == 2#16 || v == 3#16 || v == 4#16)
  | .highByte _ => true
  | .lowByte b => b == code.setWidth 8 || !(b == 1#8 || b == 2#8 || b == 3#8 || b == 4#8)

/-- The term names an event of its row. -/
def Instr.wellFormed : Instr → Bool
  | .stagingBusAccess a deferred => !deferred || a.coversStatusAsWrite
  | .openCard _ _ _ => true
  | .frameDone _ _ _ => true
  | .freeze _ _ _ => true
  | .retire _ _ _ => true
  | .reopen _ _ _ => true
  | .resume _ _ _ => true
  | .discard _ _ _ => true
  | .queueHeadGrant => true
  | .queuedReadDone => true
  | .queuedReadError => true
  | .queuedWriteDone => true
  | .queuedWriteError => true
  | .freezeReadGrant => true
  | .freezeReadReturn => true
  | .freezeReadError => true
  | .sweepStart => true
  | .sweepBurstGrant => true
  | .sweepBurstDone => true
  | .sweepBurstError => true
  | .guardTimerExpiry _ => true
  | .lockTimerExpiry _ => true
  | .retryTimerExpiry _ => true
  | .readbackSequenceTaken => true
  | .faultReportTaken => true
  | .itemByte _ => true
  | .portalControl _ => true
  | .portalAddressWrite _ => true
  | .descriptorWrite _ => true
  | .load _ => true
  | .agentRoleWrite _ => true
  | .faultResponseWrite _ => true
  | .timingWrite _ => true
  | .custodyLogRead _ => true
  | .verifiedQueueRead _ => true
  | .readOnly _ => true
  | .alertCause _ => true
  | .alertEnable _ => true
  | .block w => w.commandForm 1#16
  | .unblock w => w.commandForm 2#16
  | .custodyReset w => w.commandForm 3#16
  | .clearLog w => w.commandForm 4#16
  | .resetNAssertion => true
  | .resetNRelease _ _ => true
  | .portalDataRead _ => true
  | .targetAddressByte _ _ => true
  | .transactionEnd => true

end Sys2Proof
end

