-- ==== Sys2Proof/Tests/Slice0.lean ====
section
/-! SUPPORT. The author's tests: the ill-formed terms, and for every statement states and operands that meet its hypotheses, clause by clause. -/

namespace Sys2Proof.Tests

set_option Elab.async false

open Sys2Proof.Machine

/-! Small states. -/

/-- A descriptor at base 0, limit 2, for sheet and drawing "AAAA…", section 1 of 2. -/
def desc : Vector Word 14 :=
  (((((Vector.replicate 14 0x4141#16).set 0 0#16).set 1 2#16).set 2 0xFFFF#16).set 11 1#16).set 12 0x0102#16

/-- A card in a stage. -/
def card (st : Stage) : SlotRec := { SlotRec.reset with stage := st, desc := desc }

/-- A card held from a stage. -/
def heldFrom (st : Stage) : SlotRec := { card .held with heldFrom := some st }

/-- A bridge whose tags 0 to 7 hold CONTROLLER, SCANNER, DECODER, PUNCH, PRINTER, VERIFIER, UNASSIGNED, CONTROLLER, with a record for slot 0. -/
def bridge (r : SlotRec) : State :=
  { State.reset with
    slots := State.reset.slots.set 0 r
    acc :=
      { State.reset.acc with
        roles := #v[.controller, .scanner, .decoder, .punch, .printer, .verifier, .unassigned, .controller] } }

/-- The same, BLOCKED. -/
def blocked (r : SlotRec) : State := { bridge r with fu := { State.reset.fu with bridge := .blocked } }

/-- The lock of tag 7 on slot 0, with some ticks left. -/
def lockOf (ticks : Nat) : Lock where
  slot := 0
  tag := 7
  offset := 0x40
  timeout := 50
  ticks := ticks

/-- The same bridge, with slot 0 locked by tag 7 and some ticks left. -/
def lockedFor (ticks : Nat) (r : SlotRec) : State :=
  { bridge r with acc := { (bridge r).acc with locks := [lockOf ticks] } }

/-- The same with two ticks left. -/
def locked (r : SlotRec) : State := lockedFor 2 r

/-- An access to window 0 by size code, offset and tag. -/
def access (wr : Bool) (code : BitVec 3) (offset : Nat) (t : Tag) (data : BitVec 512) : Access where
  wr := wr
  sizeCode := code
  addr := BitVec.ofNat 24 offset
  tag := t
  lopen := false
  lclose := false
  data := data

/-- A one-byte read of window 0. -/
def byteRead (offset : Nat) (t : Tag) : Access := access false 0#3 offset t 0#512

/-- A one-byte write of 00h to window 0. -/
def byteWrite (offset : Nat) (t : Tag) : Access := access true 0#3 offset t 0#512

/-- An entry of the memory queue: one byte of slot 0. -/
def entry (wr : Bool) (role : Role) (offset : Nat) : QEntry where
  wr := wr
  size := 1
  slot := 0
  offset := offset
  pa := offset
  tag := 3
  role := role
  data := if wr then [0x5A#8] else []
  overlay := false

/-- A memory queue of `n` reads. -/
def fullQueue (n : Nat) : MemoryPort := { State.reset.mp with queue := List.replicate n (entry false .punch 0x80) }

/-- A bridge whose memory performs an operation. -/
def performing (r : SlotRec) (o : MemOp) (queue : List QEntry) : State :=
  { bridge r with mp := { queue := queue, op := some o, sweepWait := 0, due := none, besideSweep := false } }

/-- A slot whose card has been punched and printed. -/
def finished (r : SlotRec) : SlotRec := { r with punch := true, print := true }

/-- A report against slot 0. -/
def reportOf (k : FaultKind) (o : Option ReadbackOutcome) : Report where
  kind := k
  slot := 0
  agent := some 1
  stage := .scanning
  detail := .plain
  offset := some 0
  valueA := 1#16
  valueB := 0x0201#16
  readback := o

/-- A bridge with one report in hand, and a response programmed for a kind. -/
def reporting (r : SlotRec) (k : FaultKind) (p : Response) (o : Option ReadbackOutcome) : State :=
  { bridge r with
    fu :=
      { State.reset.fu with
        responses := State.reset.fu.responses.set k.entry.val p
        reports := [reportOf k o] } }

/-- A bridge whose management line stands in a phase at an item. -/
def onLine (line : LinePhase) (i : Item) : State :=
  { bridge (card .vacant) with mi := { State.reset.mi with line := line, item := i } }

/-- A bridge with the portal in a data mode at a table and address. -/
def atTable (r : SlotRec) (t : Fin 8) (addr : Nat) : State :=
  { bridge r with
    mi := { State.reset.mi with line := .writing, item := .portalData, table := t, addr := addr, mode := .data } }

/-- The management line after a whole word within a write transaction. -/
def afterWord (s : State) : Management := { s.mi with bytePos := 2, acked := true }

/-! Terms that name no event. -/

theorem test_illFormed_deferred_read : (Instr.stagingBusAccess (byteRead 0 0) true).wellFormed = false := by decide +kernel

theorem test_illFormed_deferred_elsewhere : (Instr.stagingBusAccess (byteWrite 0x10 0) true).wellFormed = false := by
  decide +kernel

theorem test_illFormed_deferred_noSize :
    (Instr.stagingBusAccess (access true 7#3 0 0 0#512) true).wellFormed = false := by decide +kernel

theorem test_illFormed_command_words :
    (Instr.block (.word 2#16)).wellFormed = false ∧ (Instr.unblock (.word 3#16)).wellFormed = false ∧
      (Instr.custodyReset (.word 4#16)).wellFormed = false ∧ (Instr.clearLog (.lowByte 1#8)).wellFormed = false := by
  decide +kernel

theorem test_wellFormed_terms :
    (Instr.stagingBusAccess (byteWrite 0xF 0) true).wellFormed = true ∧
      (Instr.stagingBusAccess (byteRead 0 0) false).wellFormed = true ∧
      (Instr.block (.word 1#16)).wellFormed = true ∧ (Instr.clearLog (.word 5#16)).wellFormed = true := by
  decide +kernel

/-! Witnesses: steps, time and reset. -/

/-- A bridge that RESET_N holds. -/
def inReset : State := { bridge (card .vacant) with pins := { resetLow := true, adr := 0#2, msize := 0#2 } }

/-- A timer or a lock at its last tick, one before it, and none. -/
theorem test_witness_TicksOfTheTimebase :
    inReset.pins.resetLow = true ∧ inReset.pending = [] ∧ (bridge (card .vacant)).pending = [] ∧
      (locked (card .loaded)).pending = [] ∧ ((locked (card .loaded)).acc.locks.map Lock.slot).Nodup ∧
      (∃ l ∈ (lockedFor 0 (card .loaded)).acc.locks, l.ticks = 0) ∧
      (∀ l ∈ (lockedFor 1 (card .loaded)).acc.locks, l.ticks ≠ 0) ∧
      ((bridge { card .scanning with guardTimer := some 0 }).slot 0).guardTimer = some 0 ∧
      ((bridge { card .frozen with retryTimer := some 0 }).slot 0).retryTimer = some 0 ∧
      (∀ n : Slot, ((bridge { card .scanning with guardTimer := some 1 }).slot n).guardTimer ≠ some 0 ∧
        ((bridge { card .scanning with guardTimer := some 1 }).slot n).retryTimer ≠ some 0) ∧ 0 < 1 := by
  decide +kernel

theorem test_witness_ResetPinHoldsTheBridge :
    let writing := performing (card .loaded) .queueHead [entry true .controller 0x10]
    let sweeping := performing (card .sweeping) (.sweepBurst 0 0 64 false) []
    (bridge (card .vacant)).mem.wf ∧ writing.mem.wf ∧ sweeping.mem.wf ∧
      ¬(0x10 ≤ 0xF ∧ 0xF < 0x10 + [0x5A#8].length) ∧ ¬(0x10 ≤ 0x11 ∧ 0x11 < 0x10 + [0x5A#8].length) ∧
      ¬(64 ≤ 63 ∧ 63 < 64 + 64) ∧ ¬(64 ≤ 128 ∧ 128 < 64 + 64) ∧ inReset.pins.resetLow = true ∧
      Instr.queueHeadGrant ≠ .resetNAssertion ∧ Instr.queueHeadGrant ≠ .resetNRelease 0#2 0#2 := by decide +kernel

/-! Witnesses: the fourteen steps. -/

/-- Each step decides some access: 16 reads in the memory queue for step 13. -/
theorem test_witness_AccessesAreDecidedInOrder :
    (access false 6#3 0 0 0#512).noSize = false ∧
      (blocked (card .loaded)).decidingStep (byteWrite 0x10 0) = 1 ∧
      (bridge (card .loaded)).decidingStep (byteRead 0x10 6) = 2 ∧
      (bridge (card .vacant)).decidingStep (byteRead 0xF 1) = 3 ∧
      (bridge (card .vacant)).decidingStep (byteRead 0x10 1) = 4 ∧
      (bridge (card .scanning)).decidingStep (byteWrite 0x2000 1) = 5 ∧
      (bridge (card .loaded)).decidingStep (byteWrite 0xF 0) = 6 ∧
      (bridge (card .freezing)).decidingStep (byteRead 0x10 0) = 7 ∧
      (bridge (card .held)).decidingStep (byteRead 0x10 1) = 8 ∧
      (bridge (card .scanning)).decidingStep (byteWrite 0x10 1) = 9 ∧
      (locked (card .scanning)).decidingStep (byteWrite 0x1000 1) = 10 ∧
      (bridge { card .scanning with guardTimer := some 1 }).decidingStep (byteWrite 0x1000 1) = 11 ∧
      (bridge (card .frozen)).decidingStep (byteWrite 0x170 5) = 12 ∧
      State.decidingStep { bridge (card .scanning) with mp := fullQueue 16 } (byteWrite 0x1FFF 1) = 13 ∧
      State.decidingStep { bridge (card .scanning) with mp := fullQueue 15 } (byteWrite 0x1000 1) = 14 := by
  decide +kernel

/-- The areas at their ends, and cells of the rights table beside cells without the right. -/
theorem test_areas_and_rights :
    (∀ x ∈ [(0x000, Area.status), (0x00F, .status), (0x010, .notes), (0x03F, .notes), (0x040, .index), (0x07F, .index),
        (0x080, .card), (0x11F, .card), (0x120, .print), (0x16F, .print), (0x170, .readback), (0x20F, .readback),
        (0x210, .notes), (0xFFF, .notes), (0x1000, .frame), (0x3FFFF, .frame)], areaOf x.1 = x.2) ∧
      hasRight .controller .held false .frame = true ∧ hasRight .controller .held true .frame = false ∧
      hasRight .controller .composing true .print = true ∧ hasRight .controller .frozen true .print = false ∧
      hasRight .verifier .frozen true .readback = true ∧ hasRight .verifier .frozen false .readback = false ∧
      hasRight .punch .verified false .card = false ∧ hasRight .controller .freezing false .card = false := by
  decide +kernel

theorem test_witness_DenialsWithoutRecord :
    (access false 7#3 0 0 0#512).noSize = true ∧ (byteWrite 0x10 0).noSize = false ∧
      (blocked (card .loaded)).decidingStep (byteWrite 0x10 0) = 1 ∧ (blocked (card .loaded)).pins.resetLow = false ∧
      (bridge (card .held)).decidingStep (byteRead 0x10 1) = 8 := by decide +kernel

/-- Step 9 with the first byte lacking the right, and with the last: 64 bytes at 100h reach PRINT at 120h. -/
theorem test_witness_DenialsWithRecord :
    let punchRead := access false 6#3 0x100 3 0#512
    (bridge (card .loaded)).decidingStep (byteRead 0x10 6) = 2 ∧ (byteRead 0x10 6).noSize = false ∧
      (bridge (card .vacant)).decidingStep (byteRead 0x10 1) = 4 ∧
      (bridge (card .scanning)).decidingStep (byteWrite 0x2000 1) = 5 ∧
      (bridge (card .scanning)).decidingStep (byteWrite 0x10 1) = 9 ∧
      hasRight .scanner .scanning true (areaOf (0x10 + 0)) = false ∧
      (bridge (card .frozen)).decidingStep punchRead = 9 ∧ 0x20 < punchRead.size ∧ punchRead.offset = 0x100 ∧
      hasRight .punch .frozen false (areaOf (0x100 + 0x20)) = false ∧
      ∀ j < 0x20, hasRight .punch .frozen false (areaOf (0x100 + j)) = true := by decide +kernel

theorem test_witness_WaitsChangeNothing :
    let big := access false 5#3 0 1 0#512
    (bridge (card .freezing)).decidingStep (byteRead 0x10 0) = 7 ∧
      (bridge { card .scanning with guardTimer := some 1 }).decidingStep (byteWrite 0x1000 1) = 11 ∧
      State.decidingStep { bridge (card .scanning) with mp := fullQueue 16 } (byteWrite 0x1000 1) = 13 ∧
      State.decidingStep { bridge (card .scanning) with mp := fullQueue 16 } big = 3 ∧ 16 < big.size ∧
      16 ≤ (fullQueue 16).queue.length ∧
      (locked (card .loaded)).decidingStep (byteWrite 0 0) = 6 ∧
      (locked (card .scanning)).decidingStep (byteWrite 0x1000 1) = 10 ∧
      (∃ l ∈ (locked (card .loaded)).acc.locks, l.slot = (byteWrite 0 0).slot ∧ l.tag ≠ 0) ∧
      (bridge { card .frozen with pred := some 1 }).decidingStep (byteRead 0x80 3) = 12 ∧
      (bridge { card .frozen with pred := some 1 }).role 3 = .punch ∧
      (bridge (card .frozen)).decidingStep (byteWrite 0x170 5) = 12 ∧
      (bridge { card .frozen with punch := true }).decidingStep (byteWrite 0x170 5) = 12 ∧
      (bridge { finished (card .frozen) with retryTimer := some 1 }).decidingStep (byteWrite 0x170 5) = 12 := by
  decide +kernel

theorem test_witness_StatusBlockReads :
    let big := access false 5#3 0 1 0#512
    (bridge (card .vacant)).decidingStep (access false 4#3 0 1 0#512) = 3 ∧ (access false 4#3 0 1 0#512).size ≤ 16 ∧
      (bridge (card .vacant)).decidingStep big = 3 ∧ 16 < big.size ∧ (bridge (card .sweeping)).decidingStep big = 3 ∧
      State.decidingStep { bridge (card .loaded) with mp := fullQueue 15 } big = 3 ∧ (fullQueue 15).queue.length < 16 := by
  decide +kernel

theorem test_witness_LockAndSequenceDenials :
    let second := { byteRead 0x1000 7 with lopen := true }
    let late := { byteWrite 0x10 0 with lclose := true }
    (locked (card .loaded)).decidingStep second = 10 ∧
      (∀ l ∈ (locked (card .loaded)).acc.locks, l.slot = second.slot → l.tag = second.tag) ∧
      ((locked (card .loaded)).acc.locks.find? fun l => l.tag == second.tag).isSome = true ∧
      (bridge (card .loaded)).decidingStep late = 10 ∧
      (∀ l ∈ (bridge (card .loaded)).acc.locks, l.slot = late.slot → l.tag = late.tag) ∧
      (bridge (finished (card .frozen))).decidingStep (byteWrite 0x171 5) = 12 ∧
      (bridge (finished (card .frozen))).role 5 = .verifier ∧ (finished (card .frozen)).retryTimer = none := by
  decide +kernel

theorem test_witness_AcceptedAccessesAreQueued :
    (bridge (card .scanning)).decidingStep (byteWrite 0x1000 1) = 14 ∧ (bridge (card .scanning)).role 1 = .scanner ∧
      (bridge (card .loaded)).decidingStep { byteRead 0x1FFF 0 with lopen := true } = 14 := by decide +kernel

/-! Witnesses: the taps. -/

/-- 01h or 02h, 7Eh, 7Eh, 7Eh on the lanes of 7Ch to 7Fh. -/
def closing (code : Nat) : Access := access true 2#3 0x7C 2 (BitVec.ofNat 512 (0x7E7E7E * 256 + code) <<< (8 * 0x3C))

/-- A DECODING card with every key byte in one state. -/
def decoded (k : KeyState) : SlotRec := { card .decoding with keys := Vector.replicate 22 k }

theorem test_witness_IndexWritesAreFollowed :
    (bridge (card .decoding)).decidingStep (byteWrite 0x40 2) = 14 ∧ (bridge (card .decoding)).role 2 = .decoder ∧
      (∃ k < (byteWrite 0x40 2).size, areaOf ((byteWrite 0x40 2).offset + k) = .index) ∧
      ¬(0x80 ≤ (byteWrite 0x40 2).offset + (byteWrite 0x40 2).size) := by decide +kernel

theorem test_witness_MatchingClosingEstablishesTheKey :
    let s := bridge (decoded .matched)
    let a := closing 1
    s.decidingStep a = 14 ∧ a.wr = true ∧ s.role a.tag = .decoder ∧ a.touches .index ∧ a.closes 1#8 ∧
      a.follows (s.slot a.slot) (Vector.replicate 22 .matched) ∧ s.directory = [] := by
  refine ⟨by decide +kernel, rfl, by decide +kernel, ⟨0, by decide +kernel⟩, ?_, ?_, rfl⟩
  · unfold Access.closes; decide +kernel
  · intro k; revert k; decide +kernel

/-- Key bytes 0 to 20 in MATCH and byte 21 in a given state. -/
def lastByte (k : KeyState) : Vector KeyState 22 := (Vector.replicate 22 .matched).set 21 k

theorem test_witness_FailedClosingsAreReported :
    let s := fun r => bridge r
    let a := closing 1
    (s (decoded .unwritten)).decidingStep a = 14 ∧ (s (decoded .unwritten)).decidingStep (closing 2) = 14 ∧
      (closing 2).offset + (closing 2).size = 0x80 ∧ (closing 2).byteAt 0x7C = 2#8 ∧ (closing 2).byteAt 0x7F = 0x7E#8 ∧
      (decoded .unwritten).keys[(0 : Fin 22).val] = .unwritten ∧ (lastByte .unwritten)[21] = .unwritten ∧
      (∀ j : Fin 22, j < 21 → (lastByte .unwritten)[j.val] ≠ .unwritten) ∧
      (∀ j : Fin 22, (lastByte .mismatched)[j.val] ≠ .unwritten) ∧ (lastByte .mismatched)[21] = .mismatched ∧
      (∀ j : Fin 22, j < 21 → (lastByte .mismatched)[j.val] ≠ .mismatched) ∧
      ([{ slot := (63 : Slot), key := (card .decoding).key }] : List KeyEntry).find?
        (fun e => e.slot != 0 && e.key == (card .decoding).key) = some { slot := 63, key := (card .decoding).key } := by
  decide +kernel

/-- A FROZEN card whose read-back stands one byte before its end. -/
def almostRead (crc : Word) (count : Nat) : SlotRec :=
  { finished (card .frozen) with rbPtr := 0x20F, frozenCrc := crc, retryCount := count }

theorem test_witness_ReadbackRuns :
    (bridge (finished (card .frozen))).decidingStep (byteWrite 0x170 5) = 14 ∧ (finished (card .frozen)).rbPtr + 1 ≠ 0x210 ∧
      areaOf 0x170 = .readback ∧ areaOf 0x20F = .readback ∧
      (bridge (almostRead (crcBytes 0xFFFF#16 [0#8]) 0)).decidingStep (byteWrite 0x20F 5) = 14 ∧
      (almostRead 0#16 0).rbPtr + (byteWrite 0x20F 5).size = 0x210 ∧
      crcBytes (almostRead 0#16 0).runCrc ((bridge (card .frozen)).entryFor (byteWrite 0x20F 5) false).data =
        crcBytes 0xFFFF#16 [0#8] := by decide +kernel

/-- The limit after reset is 2: retry counts 1, 2 and 3 stand on either side of it. -/
theorem test_witness_ReadbackMismatches :
    crcBytes 0xFFFF#16 [0#8] ≠ (almostRead 0#16 0).frozenCrc ∧
      (bridge (almostRead 0#16 1)).decidingStep (byteWrite 0x20F 5) = 14 ∧
      (bridge (almostRead 0#16 1)).programmed .readback = .retry ∧ 1 < State.reset.su.timing.retryLimit.toNat ∧
      (bridge (almostRead 0#16 2)).decidingStep (byteWrite 0x20F 5) = 14 ∧ 2 = State.reset.su.timing.retryLimit.toNat ∧
      (bridge (almostRead 0#16 3)).decidingStep (byteWrite 0x20F 5) = 14 ∧ State.reset.su.timing.retryLimit.toNat < 3 ∧
      (reporting (almostRead 0#16 0) .readback .hold none).programmed .readback = .hold ∧
      (reporting (almostRead 0#16 0) .readback .hold none).decidingStep (byteWrite 0x20F 5) = 14 := by decide +kernel

theorem test_witness_StatusWritesGoToTheStageUnit :
    let opening := access true 0#3 0 0 0x11#512
    (bridge (card .loaded)).decidingStep opening = 6 ∧ opening.byteAt 0 = StageRequest.openCard.code ∧ opening.size = 1 ∧
      opening.offset = 0 ∧ (bridge (card .loaded)).fu.bridge = .guarding ∧ (bridge (card .loaded)).su.handed = none ∧
      (bridge (card .loaded)).decidingStep (byteWrite 0xF 0) = 6 ∧ (byteWrite 0xF 0).offset ≠ 0 ∧
      (bridge (card .loaded)).decidingStep (access true 1#3 0 0 0#512) = 6 ∧ (access true 1#3 0 0 0#512).size ≠ 1 ∧
      (access true 0#3 0 0 0x10#512).byteAt 0 = 0x10#8 ∧ (access true 0#3 0 0 0x18#512).byteAt 0 = 0x18#8 := by
  decide +kernel

/-- The states of these tests are out of reset, with no write in the Stage Unit's hand. -/
theorem test_bridges_are_up (r : SlotRec) (o : MemOp) (q : List QEntry) (k : FaultKind) (p : Response)
    (x : Option ReadbackOutcome) (l : LinePhase) (i : Item) (n : Fin 8) (a c : Nat) :
    (bridge r).busFree ∧ (blocked r).busFree ∧ (lockedFor c r).busFree ∧ (performing r o q).busFree ∧
      (reporting r k p x).busFree ∧ (onLine l i).busFree ∧ (atTable r n a).busFree := by
  repeat' constructor

/-! Witnesses: stage requests. -/

/-- A one-byte write of a request's code by tag `t`, as the Stage Unit receives it. -/
def asked (q : StageRequest) (t : Tag) (role : Role) : StageWrite where
  slot := 0
  tag := t
  role := role
  offset := 0
  size := 1
  code := q.code
  lclose := false

/-- A request row's event takes its own arrival. -/
theorem test_arrival_is_taken (r : SlotRec) (t : Tag) (q : StageRequest) (hr : (bridge r).role t ≠ .unassigned)
    (h1 : r.stage ≠ .vacant) (h2 : r.limit ≠ 0) :
    (bridge r).eventTakes 0 t false q (asked q t ((bridge r).role t)) { bridge r with out := BusOut.quiet } := by
  have hs : (bridge r).slot 0 = r := by simp [bridge, State.slot]
  refine ⟨rfl, Or.inl ⟨rfl, rfl, hr, ?_, ?_, ?_, rfl, rfl⟩⟩
  · rw [hs]; exact h1
  · rw [hs]; exact h2
  · rfl

/-- A bridge with one write handed over, GUARDING or BLOCKED. -/
def handed (r : SlotRec) (w : StageWrite) (b : BridgeState) : State :=
  { bridge r with
    su := { State.reset.su with handed := some w }
    fu := { State.reset.fu with bridge := b } }

/-- A request row's event takes a write handed over before. -/
theorem test_handed_write_is_taken (r : SlotRec) (w : StageWrite) (b : BridgeState) (t : Tag) (q : StageRequest)
    (h : w.servedBy 0 t q = true) :
    (handed r w b).eventTakes 0 t false q w
      { handed r w b with su := { (handed r w b).su with handed := none }, out := BusOut.quiet } :=
  ⟨rfl, Or.inr ⟨rfl, h, rfl⟩⟩

/-- With a write in hand no access arrives; on an empty queue its own row's event follows. -/
theorem test_write_in_hand :
    (handed (card .loaded) (asked .openCard 0 .controller) .guarding).su.handed ≠ none ∧
      (handed (card .loaded) (asked .openCard 0 .controller) .guarding).pending = [] ∧
      (asked .openCard 0 .controller).servedBy 0 0 .openCard = true := by decide +kernel

/-- The roles, shapes and codes of the requests that these witnesses send. -/
theorem test_witness_requests_are_asked :
    (asked .openCard 0 .controller).asks .openCard ∧ (asked .frameDone 1 .scanner).asks .frameDone ∧
      (asked .freeze 0 .controller).asks .freeze ∧ (asked .retire 0 .controller).asks .retire ∧
      (asked .reopen 0 .controller).asks .reopen ∧ (asked .resume 0 .controller).asks .resume ∧
      (asked .discard 0 .controller).asks .discard ∧ (bridge (card .loaded)).role 0 = .controller ∧
      (bridge (card .loaded)).role 1 = .scanner ∧ (bridge (card .loaded)).fu.bridge = .guarding := by
  unfold StageWrite.asks; decide +kernel

/-- A LOADED second section that requests slot 1, and its predecessor in slot 1. -/
def successor : SlotRec := { card .loaded with desc := (desc.set 2 1#16).set 12 0x0202#16 }

theorem test_witness_OpenStartsScanning :
    let pair := fun p : SlotRec => ({ bridge successor with slots := (bridge successor).slots.set 1 p } : State)
    (card .loaded).requested = 0xFFFF#16 ∧ (card .loaded).limit ≠ 0 ∧ successor.requested = BitVec.ofNat 16 1 ∧
      ((pair (card .scanning)).slot 1).stage = .scanning ∧ ((pair (heldFrom .verified)).slot 1).stage = .held ∧
      ((pair (heldFrom .verified)).slot 1).heldFrom ≠ some .sweeping ∧ ((pair (card .scanning)).slot 1).succ = none ∧
      (card .scanning).key.take 18 = successor.key.take 18 ∧ (card .scanning).desc[13] = successor.desc[13] ∧
      (card .scanning).sectionCount = successor.sectionCount ∧
      successor.sectionNo = (card .scanning).sectionNo + 1 := by decide +kernel

theorem test_witness_FrameDoneFreezeRetire :
    ((bridge (card .scanning)).slot 0).stage = .scanning ∧ ((bridge (card .composing)).slot 0).stage = .composing ∧
      ((bridge (card .verified)).slot 0).stage = .verified ∧ (card .scanning).limit ≠ 0 := by decide +kernel

theorem test_witness_ReopenAndResume :
    (∀ h ∈ [Stage.scanning, .decoding, .composing, .freezing, .frozen, .verified],
      ((bridge (heldFrom h)).slot 0).stage = .held ∧ ((bridge (heldFrom h)).slot 0).heldFrom = some h ∧
        ((bridge (heldFrom h)).slot 0).succ = none) ∧
      ((bridge (heldFrom .sweeping)).slot 0).heldFrom = some .sweeping := by decide +kernel

theorem test_witness_DiscardEmptiesOrSweeps :
    ((bridge (card .loaded)).slot 0).stage = .loaded ∧
      ∀ st ∈ [Stage.scanning, .decoding, .composing, .freezing, .frozen, .verified, .held],
        ((bridge (card st)).slot 0).stage = st ∧ (card st).stage ≠ .vacant := by decide +kernel

/-- One write for each test of R44 that it fails, and a write taken while the bridge is BLOCKED. -/
theorem test_witness_RequestsAreRefused :
    let malformed := { asked .openCard 0 .controller with size := 2 }
    let unknown := { asked .openCard 0 .controller with code := 0x18#8 }
    let orphaned : State :=
      { bridge { heldFrom .scanning with succ := some 1 } with
        slots := ((bridge { heldFrom .scanning with succ := some 1 }).slots).set 1 (finished (card .frozen)) }
    malformed.servedBy 0 0 .openCard = true ∧ ¬(malformed.size = 1 ∧ malformed.offset = 0) ∧
      unknown.servedBy 0 0 .openCard = true ∧ ¬(0x11 ≤ unknown.code.toNat ∧ unknown.code.toNat ≤ 0x17) ∧
      (asked .openCard 1 .scanner).role ≠ StageRequest.openCard.role ∧
      StageRequest.openCard.takenIn ((bridge (card .scanning)).slot 0) = false ∧
      ((bridge successor).slot 0).stage = .loaded ∧ ((bridge successor).slot 0).requested = BitVec.ofNat 16 1 ∧
      ((bridge successor).slot 1).inService = false ∧
      StageRequest.reopen.takenIn (orphaned.slot 0) = true ∧ (orphaned.slot 0).succ = some 1 ∧
      (orphaned.slot 1).punch = true ∧
      (asked .openCard 0 .controller).servedBy 0 0 .openCard = true ∧
      (handed (card .loaded) (asked .openCard 0 .controller) .blocked).fu.bridge = .blocked := by decide +kernel

/-! Witnesses: memory. -/

/-- A bridge whose slot 0 is freezing, `k` of three reads returned. -/
def freezingBy (k : Nat) (op : Option MemOp) : State :=
  { bridge (card .freezing) with
    cc := { freezeList := [0], freeze := some { slot := 0, returned := k, acc := 0xFFFF#16 }, seqFaults := [] }
    mp := { State.reset.mp with op := op } }

/-- A bridge whose slot 0 is being swept, `k` of 128 bursts done. -/
def sweepingBy (k : Nat) (op : Option MemOp) : State :=
  { bridge (card .sweeping) with
    sw := { queue := [0], sweep := some { slot := 0, done := k, stopped := false } }
    mp := { State.reset.mp with op := op } }

/-- A requester that the arbiter has not settled on, first by the table. -/
theorem turn_by_table (s : State) (r : Requester) (free : s.mp.op = none) (due : s.mp.due = none)
    (first : match r with
      | .freezeReader => True
      | .memoryQueue => s.asks .freezeReader = false ∧ ¬(s.asks .sweepEngine = true ∧ 16 ≤ s.mp.sweepWait)
      | .sweepEngine => s.asks .freezeReader = false ∧ (s.asks .memoryQueue = false ∨ 16 ≤ s.mp.sweepWait))
    (asks : s.asks r = true) : s.turnOf r :=
  ⟨free, asks, Or.inr ⟨fun _ h => absurd (due.symm.trans h) nofun, first⟩⟩

/-- A freeze asks, with one entry in the memory queue and a requester settled on. -/
def freezeBeside (due : Option Requester) : State :=
  { freezingBy 0 none with mp := { fullQueue 1 with due := due } }

/-- A burst is ready, with one entry in the memory queue and a wait count. -/
def sweepBeside (wait : Nat) : State := { sweepingBy 127 none with mp := { fullQueue 1 with sweepWait := wait } }

/-- The turn of each requester by the table, at both sides of the wait count, and by what was settled. -/
theorem test_witness_turns :
    (freezingBy 2 none).turnOf .freezeReader ∧ (sweepBeside 15).turnOf .memoryQueue ∧ (sweepBeside 16).turnOf .sweepEngine ∧
      (sweepingBy 0 none).turnOf .sweepEngine ∧ (freezeBeside none).turnOf .freezeReader ∧
      (freezeBeside (some .memoryQueue)).turnOf .memoryQueue := by
  refine ⟨?_, ?_, ?_, ?_, ?_, ⟨rfl, by decide +kernel, Or.inl rfl⟩⟩
  all_goals exact turn_by_table _ _ rfl rfl (by decide +kernel) (by decide +kernel)

/-- The queue's turn was settled before a sweep started: it does not count as made beside the sweep, and a burst follows at once. -/
def settledBefore (wait : Nat) : State :=
  { sweepingBy 0 none with mp := { fullQueue 1 with sweepWait := wait, due := some .memoryQueue } }

/-- The queue's turn was settled beside a sweep that has been held since. -/
def settledBeside : State :=
  { bridge (heldFrom .sweeping) with mp := { fullQueue 1 with due := some .memoryQueue, besideSweep := true } }

/-- The moment of the grant is the one at which the turn was settled, and now where none is settled. -/
theorem test_witness_asksBeside :
    ¬(settledBefore 15).asksBeside ∧ ¬(settledBefore 16).asksBeside ∧ settledBeside.asksBeside ∧ (sweepBeside 15).asksBeside ∧
      ¬(freezeBeside none).asksBeside ∧ (settledBefore 15).turnOf .memoryQueue ∧ settledBeside.turnOf .memoryQueue := by
  refine ⟨?_, ?_, Or.inl ⟨_, rfl, by decide +kernel, rfl⟩, Or.inr ⟨nofun, by decide +kernel⟩, ?_,
    ⟨rfl, by decide +kernel, Or.inl rfl⟩, ⟨rfl, by decide +kernel, Or.inl rfl⟩⟩
  all_goals rintro (⟨_, _, _, h⟩ | h) <;> exact absurd h nofun

/-- A sweep that starts on a free memory after the queue's turn was settled does not raise the sweep wait count (R129). -/
theorem test_sweep_started_after_the_turn :
    let s := { bridge (card .sweeping) with
      sw := { queue := [0], sweep := none }
      mp := { fullQueue 1 with sweepWait := 3, due := some .memoryQueue } }
    (s.startSweep.grantQueueHead.mp.sweepWait, s.startSweep.grantQueueHead.mp.op) = (3, some .queueHead) := by
  decide +kernel

/-- Each reason for which a grant is not made. -/
theorem test_witness_no_turns :
    ¬(freezingBy 0 (some .queueHead)).turnOf .freezeReader ∧ ¬(freezeBeside (some .memoryQueue)).turnOf .freezeReader ∧
      ¬(freezeBeside none).turnOf .memoryQueue ∧ ¬(sweepBeside 16).turnOf .memoryQueue ∧
      ¬(sweepBeside 15).turnOf .sweepEngine ∧ ¬(bridge (card .loaded)).turnOf .sweepEngine := by
  refine ⟨?_, ?_, ?_, ?_, ?_, ?_⟩ <;> rintro ⟨free, asks, h | h⟩
  all_goals first
    | exact absurd free (by decide +kernel)
    | exact absurd asks (by decide +kernel)
    | exact absurd h (by decide +kernel)

/-- A sweep that may start, and each reason for which it may not. -/
theorem test_witness_GrantsAndSweepStarts :
    let waiting := fun (r : SlotRec) (op : Option MemOp) =>
      ({ bridge r with sw := { queue := [0], sweep := none }, mp := { State.reset.mp with op := op } } : State)
    (freezingBy 2 none).cc.freeze.isSome = true ∧ (sweepingBy 0 none).sw.sweep.isSome = true ∧
      (waiting (card .sweeping) none).sw.sweep = none ∧ ((waiting (card .sweeping) none).slot 0).drainCount = 0 ∧
      (waiting (card .sweeping) none).mp.op.any MemOp.isSweepBurst = false ∧ (sweepingBy 0 none).sw.sweep ≠ none ∧
      (waiting (card .sweeping) (some (.sweepBurst 1 0 0 true))).mp.op.any MemOp.isSweepBurst = true ∧
      ((waiting { card .sweeping with drainCount := 1 } none).slot 0).drainCount ≠ 0 ∧
      (bridge (card .loaded)).sw.queue.head? = none := by
  decide +kernel

theorem test_witness_queue_answers :
    let reading := performing (card .frozen) .queueHead [entry false .punch 0x11F]
    let writing := performing (card .composing) .queueHead [entry true .controller 0x80]
    reading.mp.op = some .queueHead ∧ reading.mp.queue = [entry false .punch 0x11F] ∧
      (entry false .punch 0x11F).wr = false ∧ reading.inMemory 0x11F 1 = true ∧ reading.inMemory 0x1FFFFF 1 = true ∧
      reading.inMemory 0x200000 1 = false ∧ (entry false .printer 0x16F).offset + (entry false .printer 0x16F).size = 0x170 ∧
      { entry false .scanner 0 with size := 32, overlay := true }.overlay = true ∧
      writing.mp.queue = [entry true .controller 0x80] ∧ (entry true .controller 0x80).wr = true ∧
      writing.inMemory 0x80 (entry true .controller 0x80).data.length = true ∧ writing.mem.wf := by decide +kernel

theorem test_witness_FreezeReadsAnswered :
    (∀ k ∈ [0, 1, 2],
      (freezingBy k (some (.freezeRead 0 (k + 1) 0x80 false))).mp.op = some (.freezeRead 0 (k + 1) 0x80 false) ∧
        (freezingBy k none).cc.freeze.isSome = true ∧
        (freezingBy k none).inMemory 0x80 (if k + 1 = 3 then 32 else 64) = true) ∧ 1 < 2 := by decide +kernel

theorem test_witness_AbandonedAnswersDiscarded :
    (performing (card .held) (.freezeRead 0 1 0x80 true) []).mp.op = some (.freezeRead 0 1 0x80 true) ∧
      (performing (card .held) (.sweepBurst 0 1 0x40 true) []).mp.op = some (.sweepBurst 0 1 0x40 true) ∧
      (performing (card .held) (.sweepBurst 0 1 0x40 true) []).inMemory 0x40 64 = true ∧
      (performing (card .held) (.sweepBurst 0 1 0x40 true) []).mem.wf := by decide +kernel

/-- Bursts 126 and 127 of a region of two granules. -/
theorem test_witness_SweepBurstsAnswered :
    (sweepingBy 126 (some (.sweepBurst 0 126 8064 false))).mp.op = some (.sweepBurst 0 126 8064 false) ∧
      126 + 1 < ((sweepingBy 126 none).slot 0).limit * 64 ∧ 127 + 1 = ((sweepingBy 127 none).slot 0).limit * 64 ∧
      (sweepingBy 127 (some (.sweepBurst 0 127 8128 false))).mp.op = some (.sweepBurst 0 127 8128 false) ∧
      (sweepingBy 127 none).inMemory 8128 64 = true ∧ (sweepingBy 127 none).mem.wf := by decide +kernel

/-! Witnesses: timers and faults. -/

theorem test_witness_TimerExpiries :
    let ending := bridge { card .frozen with guardTimer := some 0, retryTimer := some 0 }
    let running := bridge { card .frozen with guardTimer := some 1, retryTimer := some 1 }
    (ending.slot 0).guardTimer = some 0 ∧ (ending.slot 0).retryTimer = some 0 ∧ (running.slot 0).guardTimer ≠ some 0 ∧
      (running.slot 0).retryTimer ≠ some 0 ∧
      ((lockedFor 0 (card .loaded)).acc.locks.find? fun x => x.slot == 0) = some (lockOf 0) ∧
      ∀ l ∈ (lockedFor 1 (card .loaded)).acc.locks, l.slot = 0 → l.ticks ≠ 0 := by decide +kernel

/-- A bridge in which a SEQUENCE fault awaits the Card Check Unit. -/
def sequenced (r : SlotRec) (p : Response) : State :=
  { reporting r .readback p none with
    cc :=
      { State.reset.cc with
        seqFaults := [{ slot := 0, tag := 5, offset := 0x171, pointer := 0x170, size := 1 }] } }

theorem test_witness_SequenceFaultsTaken :
    ((sequenced (card .held) .retry).slot 0).stage = .held ∧
      ((sequenced (card .frozen) .hold).slot 0).stage = .frozen ∧
      (sequenced (card .frozen) .hold).programmed .readback = .hold ∧
      (sequenced (card .frozen) .retry).programmed .readback = .retry ∧
      ((sequenced (almostRead 0#16 1) .retry).slot 0).retryCount < (sequenced (card .frozen) .retry).su.timing.retryLimit.toNat ∧
      ((sequenced (almostRead 0#16 2) .retry).slot 0).retryCount = (sequenced (card .frozen) .retry).su.timing.retryLimit.toNat ∧
      (sequenced (card .frozen) .retry).su.timing.retryLimit.toNat < ((sequenced (almostRead 0#16 3) .retry).slot 0).retryCount ∧
      ((sequenced (card .vacant) .retry).slot 0).stage ≠ .held ∧
      ((sequenced (card .vacant) .retry).slot 0).stage ≠ .frozen ∧
      (sequenced (card .vacant) .retry).cc.seqFaults.length = 1 := by decide +kernel

/-- Latches that follow from none. -/
def latchesOf (causes : List Cause) : Vector Bool 7 :=
  causes.foldl (fun v c => v.set c.place.val true) (Vector.replicate 7 false)

/-- Latches that follow from none, of three causes, of one and of none. -/
theorem test_witness_latches :
    ∀ causes ∈ [[Cause.slotHeld, .blockEntered, .memoryError], [.faultReported], []],
      State.reset.fu.latchesWith causes (latchesOf causes) := by
  intro causes h c
  revert causes
  cases c <;> decide +kernel

theorem test_witness_FaultReportsThatHold :
    (∀ st ∈ [Stage.scanning, .decoding, .composing, .freezing, .frozen, .verified, .sweeping],
      ((reporting (card st) .limit .hold none).slot 0).stage = st) ∧
      (reporting (card .scanning) .limit .hold none).programmed .limit = .hold ∧
      (reporting (card .scanning) .memory .block none).programmed .memory = .block ∧
      (reporting (card .frozen) .readback .hold (some .holdProgrammed)).fu.reports.length = 1 ∧
      (reportOf .readback (some (.exhausted 3))).readback = some (.exhausted 3) ∧
      (reporting (card .scanning) .memory .block none).fu.bridge = .guarding := by
  decide +kernel

theorem test_witness_FaultReportsThatHoldNoSlot :
    ((reporting (card .held) .memory .block none).slot 0).stage = .held ∧
      (reporting (card .scanning) .stranger .silent none).programmed .stranger = .silent ∧
      (reporting (card .decoding) .index .report none).programmed .index = .report ∧
      (reporting (card .vacant) .limit .hold none).programmed .limit = .hold ∧
      ((reporting (card .vacant) .limit .hold none).slot 0).stage = .vacant ∧
      ((reporting (card .loaded) .limit .block none).slot 0).stage = .loaded ∧
      (reporting (card .loaded) .limit .block none).programmed .limit = .block ∧
      (∀ o ∈ [ReadbackOutcome.holdProgrammed, .exhausted 8, .retried, .outOfFrozen .retry, .outOfFrozen .hold, .foundHeld],
        (reportOf .readback (some o)).readback = some o) := by
  decide +kernel

/-! Witnesses: the management line. -/

theorem test_witness_TransactionsOnTheLine :
    (0x34#7).toNat = 0x34 + (bridge (card .vacant)).pins.adr.toNat ∧
      (0x37#7).toNat ≠ 0x34 + (bridge (card .vacant)).pins.adr.toNat ∧
      (0x37#7).toNat = 0x34 + (3#2).toNat ∧ 7 ≤ (7#8).toNat ∧
      [Item.portalControl, .portalData, .portalStatus, .alertCause, .alertEnable, .bridgeStatus, .command][(6#8).toNat]? =
        some .command := by decide +kernel

theorem test_witness_ItemsShowTheirBytes :
    (∀ i ∈ [Item.portalControl, .portalData, .portalStatus, .alertCause, .alertEnable, .bridgeStatus, .command],
      (onLine .reading i).mi.line = .reading ∧ (onLine .reading i).mi.out = [] ∧ (onLine .reading i).mi.item = i) ∧
      (onLine .writing .portalControl).mi.line ≠ .reading ∧
      { (onLine .reading .portalControl).mi with out := [0#8, 0#8] }.out ≠ [] := by decide +kernel

/-- A first byte, a second byte, a word, and a word past an item's width. -/
theorem test_witness_HalfWordsChangeNothing :
    let m := (onLine .writing .portalControl).mi
    let half := { m with partialByte := some 0x12#8, bytePos := 1 }
    let past := { m with bytePos := 2 }
    m.line = .writing ∧ m.item = .portalControl ∧ m.partialByte = none ∧ m.bytePos = 0 ∧
      half.partialByte = some 0x12#8 ∧ past.partialByte = none ∧ past.bytePos ≠ 0 ∧ Item.portalControl ≠ .portalData ∧
      (∀ i ∈ [Item.portalControl, .alertEnable, .command, .portalData],
        ((onLine .writing i).mi.intake i (.highByte 1#8)).2 = none) ∧
      (atTable (card .vacant) 0 13).mi.portalWrite = .descriptor ∧ (atTable (card .vacant) 0 14).mi.portalWrite = .load ∧
      (atTable (card .vacant) 2 7).mi.portalWrite = .role ∧ (atTable (card .vacant) 3 11).mi.portalWrite = .response ∧
      (atTable (card .vacant) 4 3).mi.portalWrite = .timing ∧ (atTable (card .vacant) 7 0).mi.portalWrite = .refused ∧
      (onLine .writing .portalData).mi.portalWrite = .address := by decide +kernel

theorem test_witness_PortalControlSelects :
    let s := onLine .writing .portalControl
    s.mi.intake .portalControl (.word 0x0703#16) = (afterWord s, some 0x0703#16) ∧
      (0x0703#16).toNat = 7 * 256 + [PortalMode.address, .data, .dataStep, .dataStepWrite].idxOf .dataStepWrite ∧
      8 ≤ (0x0800#16).toNat / 256 ∧ 4 ≤ (0x0004#16).toNat % 256 ∧
      (atTable (card .vacant) 6 1).mi.intake .portalData (.word 0#16) = (afterWord (atTable (card .vacant) 6 1), some 0#16) ∧
      (atTable (card .vacant) 6 1).mi.mode ≠ .address ∧ portalSize 6 ≤ 1 ∧ portalSize 5 ≤ 8 ∧ portalSize 4 ≤ 4 := by
  decide +kernel

theorem test_witness_AddressWritesAndRefusedWrites :
    let s := onLine .writing .portalData
    s.mi.mode = .address ∧ (0x3FF#16).toNat < portalSize s.mi.table ∧ portalSize s.mi.table ≤ (0x400#16).toNat ∧
      s.mi.intake .portalData (.word 0x3FF#16) = (afterWord s, some 0x3FF#16) ∧
      (atTable (card .vacant) 0 1023).mi.addr < portalSize 0 ∧ 1023 % 16 = 15 ∧
      (atTable (card .vacant) 7 64).mi.addr < portalSize 7 ∧
      (onLine .refusing .portalData).mi.line = .refusing ∧ (onLine .writing .bridgeStatus).mi.item = .bridgeStatus ∧
      2 ≤ { (onLine .writing .command).mi with bytePos := 2 }.bytePos := by decide +kernel

/-- Words 13 and 15 of slot 0. -/
theorem test_witness_DescriptorWrites :
    (atTable (card .scanning) 0 15).mi.intake .portalData (.word 7#16) =
        (afterWord (atTable (card .scanning) 0 15), some 7#16) ∧
      (atTable (card .scanning) 0 15).mi.addr = (0 : Slot).val * 16 + 15 ∧
    ∀ st ∈ [Stage.vacant, .loaded, .scanning],
      (atTable (card st) 0 13).mi.intake .portalData (.word 7#16) = (afterWord (atTable (card st) 0 13), some 7#16) ∧
        (atTable (card st) 0 13).mi.addr = (0 : Slot).val * 16 + (13 : Fin 14).val ∧
        ((atTable (card st) 0 13).slot 0).stage = st := by decide +kernel

/-- A bridge whose only card stands in slot 0, with its region, obeys the law of regions. -/
theorem test_regionLaw (st : Stage) : (atTable (card st) 0 14).regionLaw := by
  intro n
  revert n
  cases st <;> decide +kernel

theorem test_witness_Loads :
    let crowded : State :=
      { atTable { card .vacant with desc := desc.set 0 1#16 } 0 14 with
        slots := ((bridge { card .vacant with desc := desc.set 0 1#16 }).slots).set 1 (card .loaded) }
    (atTable (card .vacant) 0 14).mi.intake .portalData (.word 1#16) = (afterWord (atTable (card .vacant) 0 14), some 1#16) ∧
      (0#16 : Word) ≠ 1#16 ∧ ((atTable (card .scanning) 0 14).slot 0).stage = .scanning ∧
      ((atTable (card .loaded) 0 14).slot 0).stage = .loaded ∧ crowded.overlaps 0 = true ∧
      (crowded.slot 0).base < (crowded.slot 1).base + (crowded.slot 1).limit ∧
      (∀ n : Slot, (crowded.slot n).stage ≠ .vacant →
        (crowded.slot n).fieldsInRange n = true ∧ crowded.pastMemory n = false ∧ crowded.overlaps n = false) := by
  decide +kernel

/-- The ranges of R4 at their ends: a first card whose every field lies in range, and one whose limit does not. -/
theorem test_witness_Loads_fields :
    (card .vacant).describes 0 ∧ ¬{ card .vacant with desc := desc.set 1 1#16 }.describes 0 ∧
      (atTable (card .vacant) 0 14).regionFree 0 := by
  refine ⟨?_, ?_, ?_⟩
  · unfold SlotRec.describes isPrintable; decide +kernel
  · intro h; exact absurd h.2.1.1 (by decide +kernel)
  · refine ⟨by decide +kernel, fun m hm hst => absurd ?_ hst⟩
    revert m; decide +kernel

theorem test_witness_TableWrites :
    (∀ t ∈ [(2 : Fin 8), 3, 4], (atTable (card .vacant) t 3).mi.addr < portalSize t) ∧
      (6#16).toNat = Role.verifier.code ∧ 7 ≤ (7#16).toNat ∧ (5#16).toNat = Response.block.code ∧
      (atTable (card .vacant) 3 11).mi.addr < portalSize 3 ∧ Response.block ∈ [Response.hold, .block] ∧
      (15#16).toNat ≤ 15 ∧ 16 ≤ (16#16).toNat ∧ 1 ≤ (255#16).toNat ∧ (0#16).toNat = 0 ∧ 256 ≤ (256#16).toNat ∧
      (7#16).toNat ≤ 7 ∧ 8 ≤ (8#16).toNat ∧
      (atTable (card .vacant) 2 7).mi.intake .portalData (.word 6#16) =
        (afterWord (atTable (card .vacant) 2 7), some 6#16) := by decide +kernel

/-- A bridge whose read transaction of PORTAL DATA stands at a table word. -/
def readingAt (t : Fin 8) (addr : Nat) (x : Option Sending) : State :=
  { atTable (card .loaded) t addr with
    mi := { (atTable (card .loaded) t addr).mi with line := .reading, sending := x } }

theorem test_witness_PortalWordsRead :
    (∀ a ∈ [0, 13, 14, 15, 1023], (readingAt 0 a none).mi.sending = none ∧ a < portalSize 0) ∧
      portalSize 0 ≤ (readingAt 0 1024 none).mi.addr ∧ (readingAt 1 511 none).mi.addr = (63 : Slot).val * 8 + 7 ∧
      (readingAt 2 7 none).mi.addr = (7 : Tag).val ∧ (readingAt 3 11 none).mi.addr = FaultKind.memory.code - 1 ∧
      (readingAt 4 3 none).mi.addr < 4 ∧ (readingAt 7 64 none).mi.addr = 63 + 1 ∧
      (readingAt 0 0 none).mi.line = .reading ∧ (readingAt 0 0 none).mi.item = .portalData ∧
      (readingAt 0 0 (some .portalWord)).mi.sending = some .portalWord ∧
      (bridge (card .vacant)).mi.mode = .address := by decide +kernel

theorem test_witness_LogAndQueueReads :
    (readingAt 5 7 none).mi.mode ≠ .address ∧ (readingAt 5 7 none).mi.addr < 8 ∧ (readingAt 5 7 none).mi.line = .reading ∧
      (readingAt 5 7 (some (.logWord true))).mi.sending = some (.logWord true) ∧
      (readingAt 6 0 none).mi.addr < 1 ∧ (readingAt 6 0 (some (.verifiedWord (some 63) true))).mi.sending.isSome = true ∧
      portalSize 5 ≤ (readingAt 5 8 none).mi.addr ∧ portalSize 6 ≤ (readingAt 6 1 none).mi.addr := by decide +kernel

theorem test_witness_AlertsAreCollected :
    let s := onLine .reading .alertCause
    let sent : State := { s with fu := { s.fu with latches := latchesOf [.sweepDone] } }
    s.mi.line = .reading ∧ s.mi.sending = none ∧ s.mi.bytePos = 0 ∧ { s.mi with bytePos := 1 }.bytePos ≠ 0 ∧
      inReset.pins.resetLow = true ∧
      (sent.fu.latches[Cause.sweepDone.place.val] && sent.fu.enables[Cause.sweepDone.place.val]) = true ∧
      (∀ d ∈ Cause.byPriority, d.code < Cause.sweepDone.code →
        (sent.fu.latches[d.place.val] && sent.fu.enables[d.place.val]) = false) ∧
      (∀ d ∈ Cause.byPriority, (s.fu.latches[d.place.val] && s.fu.enables[d.place.val]) = false) ∧
      (onLine .writing .alertEnable).mi.intake .alertEnable (.word 0x7F#16) =
        (afterWord (onLine .writing .alertEnable), some 0x7F#16) := by decide +kernel

theorem test_witness_WholeReadsAreBothParts :
    (onLine .reading .alertCause).mi.item = .alertCause ∧ (onLine .idle .alertCause).mi.line ≠ .reading ∧
      (readingAt 0 0 none).mi.table ≠ 5 ∧ (readingAt 5 0 none).mi.table = 5 ∧ (readingAt 6 0 none).mi.table = 6 ∧
      (readingAt 6 0 none).mi.mode ≠ .address ∧ (readingAt 6 0 none).mi.sending = none := by decide +kernel

theorem test_witness_commands :
    ∀ k ∈ [0, 1, 2, 3, 4, 5],
      (onLine .writing .command).mi.intake .command (.word (BitVec.ofNat 16 k)) =
        (afterWord (onLine .writing .command), some (BitVec.ofNat 16 k)) := by
  decide +kernel

/-! Witnesses: the laws. -/

/-- A bridge with a card in slot 0 obeys the laws that the invariants assume of a state, and a step of it answers a next state. -/
theorem test_witness_invariants :
    (bridge (card .loaded)).memoryLaw ∧ (bridge (card .loaded)).queueLaw ∧ (bridge (card .loaded)).logLaw ∧
      (locked (card .loaded)).lockLaw ∧ (bridge (heldFrom .sweeping)).heldLaw ∧ (bridge (card .loaded)).rangeLaw := by
  decide +kernel

theorem test_witness_verifiedLaw : (bridge (finished (card .verified))).verifiedLaw := by decide +kernel
theorem test_witness_listLaw : (sweepingBy 0 none).listLaw ∧ (freezingBy 0 none).listLaw := by decide +kernel
theorem test_witness_resetLaw : (bridge (card .loaded)).resetLaw := by decide +kernel

/-- A sweep's first burst in flight obeys the law of the memory's operations. -/
theorem test_witness_operationLaw : (sweepingBy 0 (some (.sweepBurst 0 0 0 false))).operationLaw := by
  refine ⟨by decide +kernel, ?_⟩
  show (sweepingBy 0 (some (.sweepBurst 0 0 0 false))).inMemory 0 64 = true
  decide +kernel

/-- A chain of two: slot 0 SCANNING, its successor in slot 1 COMPOSING with an established key. -/
def linked : State :=
  let next : SlotRec := { successor with stage := .composing, keyEst := true, pred := some 0 }
  { bridge { card .scanning with succ := some 1 } with
    slots := (bridge { card .scanning with succ := some 1 }).slots.set 1 next
    directory := [{ slot := 1, key := next.key }] }

theorem test_witness_links : linked.linkLaw ∧ linked.listLaw := by decide +kernel

theorem test_witness_keys : linked.keyLaw ∧ linked.listLaw := by decide +kernel

theorem test_witness_regions :
    (bridge (card .loaded)).regionLaw ∧ (bridge (card .loaded)).listLaw ∧ (bridge (card .loaded)).resetLaw := by
  decide +kernel

end Sys2Proof.Tests
end

section
/-! SUPPORT. The portal's descriptor table (R177, R178): where its words go, what a LOAD's checks say, and the two statements about them. -/

namespace Sys2Proof.Machine

/-! The word of a slot at an address of table 0 (01, Formats). -/

theorem descriptorSlot_of_addr (n : Slot) (k : Nat) (hk : k < 16) : descriptorSlot (n.val * 16 + k) = n := by
  have hn := n.isLt
  apply Fin.ext
  show (n.val * 16 + k) / 16 % 64 = n.val
  omega

theorem descriptorWord_of_addr (n : Slot) (k : Nat) (hk : k < 16) : (n.val * 16 + k) % 16 = k := by omega

/-- The row of a word written to word `k` of a slot in a data mode. -/
theorem Management.portalWrite_of_descriptor (m : Management) (n : Slot) (k : Nat) (hk : k < 16)
    (hmode : m.mode ≠ .address) (htable : m.table = 0) (haddr : m.addr = n.val * 16 + k) :
    m.portalWrite = if k < 14 then .descriptor else if k = 14 then .load else .refused := by
  have hin : m.inTable = true := by
    have hn := n.isLt
    have hsize : tableSize m.table = 1024 := by rw [htable]; rfl
    simp only [Management.inTable, hsize, haddr, decide_eq_true_eq]
    omega
  simp only [Management.portalWrite, hmode, hin, htable, haddr, descriptorWord_of_addr n k hk]
  rfl

/-! A completed PORTAL DATA word acts in the row it belongs to (log 18). -/

/-- The state in which a completed PORTAL DATA word acts: the line has taken it in, and the edge answers nothing on the bus. -/
def State.tookIn (s : State) (m : Management) : State := { s with mi := m, out := BusOut.quiet }

@[simp] theorem State.mi_tookIn (s : State) (m : Management) : (s.tookIn m).mi = m := rfl

theorem State.setStatus_tookIn (s : State) (m : Management) (st : PortalStatus) :
    (s.tookIn m).setStatus st = { s with mi := { m with status := st }, out := BusOut.quiet } := rfl

theorem State.whenUp_portalRow_of_word (s : State) (k : PortalWrite) (w : WordIn) (act : State → Word → State)
    (m : Management) (v : Word) (hup : s.pins.resetLow = false) (hword : s.mi.intake .portalData w = (m, some v))
    (hrow : s.mi.portalWrite = k) : (s.whenUp fun s => s.portalRow k w act) = act (s.tookIn m) v := by
  rw [State.whenUp_of_up s hup]
  unfold State.portalRow
  rw [if_pos hrow]
  exact State.intake_of_word _ _ _ _ _ _ hword

theorem exec_descriptorWrite_of_word (s : State) (w : WordIn) (m : Management) (v : Word)
    (hup : s.pins.resetLow = false) (hword : s.mi.intake .portalData w = (m, some v))
    (hrow : s.mi.portalWrite = .descriptor) :
    exec (.descriptorWrite w) s = .next ((s.tookIn m).writeDescriptor v) :=
  congrArg _ (State.whenUp_portalRow_of_word s _ w _ m v hup hword hrow)

theorem exec_load_of_word (s : State) (w : WordIn) (m : Management) (v : Word)
    (hup : s.pins.resetLow = false) (hword : s.mi.intake .portalData w = (m, some v))
    (hrow : s.mi.portalWrite = .load) :
    exec (.load w) s = .next ((s.tookIn m).loadDescriptor v) :=
  congrArg _ (State.whenUp_portalRow_of_word s _ w _ m v hup hword hrow)

theorem exec_readOnly_of_word (s : State) (w : WordIn) (m : Management) (v : Word)
    (hup : s.pins.resetLow = false) (hword : s.mi.intake .portalData w = (m, some v))
    (hrow : s.mi.portalWrite = .refused) :
    exec (.readOnly (.portalWord w)) s = .next ((s.tookIn m).refuseWord v) :=
  congrArg _ (State.whenUp_portalRow_of_word s _ w _ m v hup hword hrow)

/-- Taking a word in leaves the portal address alone. -/
theorem Management.addr_of_intake {m₀ m : Management} {i : Item} {w : WordIn} {r : Option Word}
    (h : m₀.intake i w = (m, r)) : m.addr = m₀.addr := by
  obtain ⟨-, -, haddr, -⟩ := m₀.intake_portal i w
  rwa [h] at haddr

/-- So the address lies in the table after the intake exactly if it did before. -/
theorem Management.inTable_of_intake {m₀ m : Management} {i : Item} {w : WordIn} {r : Option Word}
    (h : m₀.intake i w = (m, r)) : m.inTable = m₀.inTable := by
  obtain ⟨htable, -, haddr, -⟩ := m₀.intake_portal i w
  rw [h] at htable haddr
  unfold Management.inTable
  rw [htable, haddr]

/-! The write of a descriptor word, by the slot's stage (R177). -/

theorem SlotRec.store_eq (r : SlotRec) (k : Fin 14) (v : Word) :
    r.store k.val v = { r with desc := r.desc.set k.val v } := by
  have hset : r.desc.setIfInBounds k.val v = r.desc.set k.val v := by
    ext i hi
    rw [Vector.getElem_setIfInBounds, Vector.getElem_set]
  rw [SlotRec.store, hset]

theorem State.writeDescriptor_of_vacant (s : State) (v : Word) (n : Slot) (k : Fin 14)
    (haddr : s.mi.addr = n.val * 16 + k.val) (hst : (s.slot n).stage = .vacant) :
    s.writeDescriptor v =
      { s with
        slots := s.slots.set n.val { s.slot n with desc := (s.slot n).desc.set k.val v }
        mi := s.mi.wrote } := by
  have hk : k.val < 16 := by omega
  have hwrite : s.writeDescriptor v = (s.modSlot n fun r => r.store k.val v).takenWrite := by
    simp only [State.writeDescriptor, haddr, descriptorSlot_of_addr n k hk, descriptorWord_of_addr n k hk, hst]
  rw [hwrite, State.takenWrite_eq, State.modSlot_eq, SlotRec.store_eq]

/-- A slot emptied after one of its words was stored. -/
theorem State.vacate_modSlot_store (s : State) (v : Word) (n : Slot) (k : Fin 14) :
    (s.modSlot n fun r => r.store k.val v).vacate n =
      { s with
        slots := s.slots.set n.val { (s.slot n).emptied with desc := (s.slot n).desc.set k.val v }
        acc := s.locksOff n } := by
  rw [State.vacate_eq, State.slot_modSlot_self, State.slots_modSlot, Vector.set_set, SlotRec.store_eq]
  rfl

theorem State.writeDescriptor_of_loaded (s : State) (v : Word) (n : Slot) (k : Fin 14)
    (haddr : s.mi.addr = n.val * 16 + k.val) (hst : (s.slot n).stage = .loaded) :
    s.writeDescriptor v =
      { s with
        slots := s.slots.set n.val { (s.slot n).emptied with desc := (s.slot n).desc.set k.val v }
        acc := s.locksOff n
        mi := s.mi.wrote } := by
  have hk : k.val < 16 := by omega
  simp only [State.writeDescriptor, haddr, descriptorSlot_of_addr n k hk, descriptorWord_of_addr n k hk, hst,
    State.vacate_modSlot_store, State.takenWrite_eq]

theorem State.writeDescriptor_of_busy (s : State) (v : Word) (n : Slot) (k : Fin 14)
    (haddr : s.mi.addr = n.val * 16 + k.val) (hvacant : (s.slot n).stage ≠ .vacant)
    (hloaded : (s.slot n).stage ≠ .loaded) : s.writeDescriptor v = s.setStatus .refusedStage := by
  have hk : k.val < 16 := by omega
  simp only [State.writeDescriptor, haddr, descriptorSlot_of_addr n k hk]
  split
  case h_1 hst => exact absurd hst hvacant
  case h_2 hst => exact absurd hst hloaded
  all_goals rfl

/-- Settles O43: the word's row by its place in the slot's sixteen, then the write by the slot's stage. -/
theorem descriptorWrites : Obligations.DescriptorWrites := by
  unfold Obligations.DescriptorWrites
  intro s w m v n hup hword hmode htable
  refine ⟨fun k haddr => ?_, fun haddr => ?_⟩
  · have hrow : s.mi.portalWrite = .descriptor := by
      rw [s.mi.portalWrite_of_descriptor n k (by omega) hmode htable haddr, if_pos k.isLt]
    have hplace : (s.tookIn m).mi.addr = n.val * 16 + k.val := (Management.addr_of_intake hword).trans haddr
    rw [exec_descriptorWrite_of_word s w m v hup hword hrow]
    refine ⟨fun hst => ?_, fun hst => ?_, fun hvacant hloaded => ?_⟩
    · rw [State.writeDescriptor_of_vacant _ v n k hplace hst]; rfl
    · rw [State.writeDescriptor_of_loaded _ v n k hplace hst]; rfl
    · rw [State.writeDescriptor_of_busy _ v n k hplace hvacant hloaded, State.setStatus_tookIn]
  · have hrow : s.mi.portalWrite = .refused :=
      s.mi.portalWrite_of_descriptor n 15 (by decide) hmode htable haddr
    have hin : (s.tookIn m).mi.inTable = true := by
      have hn := n.isLt
      rw [State.mi_tookIn, Management.inTable_of_intake hword, Management.inTable, tableSize_eq, htable, haddr]
      exact decide_eq_true (show n.val * 16 + 15 < 1024 by omega)
    rw [exec_readOnly_of_word s w m v hup hword hrow, State.refuseWord, if_pos hin, State.setStatus_tookIn]

/-! A LOAD's second check: the ranges of R4 (R178). -/

theorem printable_iff (b : Byte) : printable b = true ↔ isPrintable b := by
  simp only [printable, isPrintable, Bool.and_eq_true, decide_eq_true_eq]

/-- The bytes of the first `k` of some words, each sent as two, are the first `2k` bytes. -/
theorem take_flatMap_pair {α β : Type} (f g : α → β) (l : List α) (k : Nat) :
    (l.flatMap fun w => [f w, g w]).take (2 * k) = (l.take k).flatMap fun w => [f w, g w] := by
  induction k generalizing l with
  | zero => simp
  | succ k ih =>
    cases l with
    | nil => simp
    | cons w l =>
      rw [Nat.mul_succ, List.take_succ_cons, List.flatMap_cons, List.flatMap_cons, ← ih]
      rfl

/-- What is left of their bytes without the first `2k` are the bytes of the words without the first `k`. -/
theorem drop_flatMap_pair {α β : Type} (f g : α → β) (l : List α) (k : Nat) :
    (l.flatMap fun w => [f w, g w]).drop (2 * k) = (l.drop k).flatMap fun w => [f w, g w] := by
  induction k generalizing l with
  | zero => simp
  | succ k ih =>
    cases l with
    | nil => simp
    | cons w l =>
      rw [Nat.mul_succ, List.drop_succ_cons, List.flatMap_cons, ← ih]
      rfl

/-- Both bytes of a word are characters (R4). -/
def printableWord (w : Word) : Prop := isPrintable (hiByte w) ∧ isPrintable (loByte w)

/-- Every byte of some words is a character exactly when both bytes of each word are. -/
theorem all_bytes_printable_iff (l : List Word) :
    (l.flatMap fun w => [hiByte w, loByte w]).all printable = true ↔ ∀ w ∈ l, printableWord w := by
  simp [printable_iff, printableWord]

/-- A property of each of `b` words of a descriptor from word `a` on. -/
theorem forall_mem_take_drop_iff (v : Vector Word 14) (a b : Nat) (P : Word → Prop) :
    (∀ w ∈ (v.toList.drop a).take b, P w) ↔ ∀ k : Fin 14, a ≤ k.val ∧ k.val < a + b → P v[k.val] := by
  constructor
  · rintro h k ⟨hak, hkb⟩
    refine h _ (List.mem_iff_getElem.mpr ⟨k.val - a, by simp; omega, ?_⟩)
    simp [Nat.add_sub_cancel' hak]
  · intro h w hw
    obtain ⟨i, hi, rfl⟩ := List.mem_iff_getElem.mp hw
    have hlen : i < b ∧ i < 14 - a := by simpa using hi
    simpa using h ⟨a + i, by omega⟩ ⟨Nat.le_add_right a i, Nat.add_lt_add_left hlen.1 a⟩

/-- The key's first 16 bytes are those of words 3 to 10. -/
theorem SlotRec.key_take_printable_iff (r : SlotRec) :
    (r.key.take 16).all printable = true ↔
      ∀ k : Fin 14, 3 ≤ k.val ∧ k.val < 3 + 8 → printableWord r.desc[k.val] := by
  rw [SlotRec.key, take_flatMap_pair hiByte loByte _ 8, all_bytes_printable_iff, forall_mem_take_drop_iff]

/-- Its last two bytes are those of word 13. -/
theorem SlotRec.key_drop_printable_iff (r : SlotRec) :
    (r.key.drop 20).all printable = true ↔ printableWord r.desc[13] := by
  have hlast : (r.desc.toList.drop 3).drop 10 = [r.desc[13]] := by
    rw [List.drop_drop, List.drop_eq_getElem_cons (by simp)]
    simp
  rw [SlotRec.key, drop_flatMap_pair hiByte loByte _ 10, hlast, all_bytes_printable_iff]
  simp

/-- The characters of a descriptor: words 3 to 10, and word 13 (R4). -/
theorem SlotRec.printableWords_iff (r : SlotRec) :
    (∀ k : Fin 14, 3 ≤ k.val ∧ k.val ≤ 10 ∨ k.val = 13 → printableWord r.desc[k.val]) ↔
      (r.key.take 16).all printable = true ∧ (r.key.drop 20).all printable = true := by
  rw [r.key_take_printable_iff, r.key_drop_printable_iff]
  constructor
  · intro h
    exact ⟨fun k hk => h k (Or.inl ⟨hk.1, by omega⟩), h 13 (Or.inr rfl)⟩
  · rintro ⟨hfirst, hlast⟩ k (hk | hk)
    · exact hfirst k ⟨hk.1, by omega⟩
    · obtain rfl : k = 13 := Fin.ext hk
      exact hlast

theorem SlotRec.requestedInRange_iff (r : SlotRec) (n : Slot) :
    r.requestedInRange n = true ↔ r.desc[2] = 0xFFFF#16 ∨ r.desc[2].toNat ≤ 63 ∧ r.desc[2].toNat ≠ n.val := by
  simp only [SlotRec.requestedInRange, SlotRec.requested, Bool.or_eq_true, beq_iff_eq, Bool.and_eq_true,
    decide_eq_true_eq, bne_iff_ne, Nat.lt_succ_iff]

/-- The model's check of the fields is the one R4 gives. -/
theorem SlotRec.fieldsInRange_iff (r : SlotRec) (n : Slot) : r.fieldsInRange n = true ↔ r.describes n := by
  have hchars := r.printableWords_iff
  unfold printableWord at hchars
  simp only [SlotRec.fieldsInRange, Bool.and_eq_true, decide_eq_true_eq, r.requestedInRange_iff n]
  unfold SlotRec.base SlotRec.limit SlotRec.sectionNo SlotRec.sectionCount SlotRec.describes
  rw [hchars]
  tauto

/-! Its third check: the region (R5, R7, R178). -/

theorem granuleCount_eq (msize : BitVec 2) : granuleCount msize = [512, 1024, 2048, 4096].getD msize.toNat 0 := by
  revert msize; decide

/-- Two regions, neither empty, share a granule exactly when some granule lies in both. -/
theorem SlotRec.shares_iff (r q : SlotRec) (hr : 0 < r.limit) (hq : 0 < q.limit) :
    r.shares q = true ↔ ∃ g : Nat, r.base ≤ g ∧ g < r.base + r.limit ∧ q.base ≤ g ∧ g < q.base + q.limit := by
  simp only [SlotRec.shares, Bool.and_eq_true, decide_eq_true_eq]
  constructor
  · rintro ⟨hrq, hqr⟩
    exact ⟨max r.base q.base, by omega⟩
  · rintro ⟨g, hg⟩
    omega

/-- A descriptor in range has a region of two granules or more. -/
theorem SlotRec.limit_pos_of_describes (r : SlotRec) (n : Slot) (h : r.describes n) : 0 < r.limit := by
  obtain ⟨-, ⟨hlimit, -⟩, -⟩ := h
  exact Nat.lt_of_lt_of_le Nat.two_pos hlimit

theorem State.overlaps_iff (s : State) (n : Slot) :
    s.overlaps n = true ↔
      ∃ m : Slot, m ≠ n ∧ (s.slot m).stage ≠ .vacant ∧ (s.slot n).shares (s.slot m) = true := by
  simp [State.overlaps, and_assoc]

/-- The model's check of a region in range is the one R5 and R7 give, where every slot outside VACANT has its region. -/
theorem State.regionFree_iff (s : State) (n : Slot) (hlaw : s.regionLaw) (hdesc : (s.slot n).describes n) :
    s.regionFree n ↔ s.pastMemory n = false ∧ s.overlaps n = false := by
  have hshares : ∀ m : Slot, (s.slot m).stage ≠ .vacant →
      ((s.slot n).shares (s.slot m) = true ↔ ∃ g : Nat, (s.slot n).base ≤ g ∧ g < (s.slot n).base + (s.slot n).limit ∧
        (s.slot m).base ≤ g ∧ g < (s.slot m).base + (s.slot m).limit) := fun m hm =>
    SlotRec.shares_iff _ _ ((s.slot n).limit_pos_of_describes n hdesc)
      ((s.slot m).limit_pos_of_describes m (((s.slot m).fieldsInRange_iff m).mp (hlaw m hm).1))
  have hpast : s.pastMemory n = false ↔
      (s.slot n).base + (s.slot n).limit ≤ [512, 1024, 2048, 4096].getD s.pins.msize.toNat 0 := by
    rw [State.pastMemory, decide_eq_false_iff_not, not_lt, granuleCount_eq]
  have hoverlaps : s.overlaps n = false ↔ ∀ m : Slot, m ≠ n → (s.slot m).stage ≠ .vacant →
      ∀ g : Nat, ¬((s.slot n).base ≤ g ∧ g < (s.slot n).base + (s.slot n).limit ∧
        (s.slot m).base ≤ g ∧ g < (s.slot m).base + (s.slot m).limit) := by
    rw [← Bool.not_eq_true, s.overlaps_iff n, not_exists]
    refine forall_congr' fun m => ?_
    rw [not_and, not_and]
    refine imp_congr_right fun _ => imp_congr_right fun hm => ?_
    rw [hshares m hm, not_exists]
  rw [State.regionFree, hpast, hoverlaps]

/-! The result of a LOAD, by its checks in order (R178). -/

theorem State.loadResult_of_stage (s : State) (n : Slot) (hvacant : (s.slot n).stage ≠ .vacant)
    (hloaded : (s.slot n).stage ≠ .loaded) : s.loadResult n = .refusedStage := by
  simp [State.loadResult, hvacant, hloaded]

theorem State.loadResult_of_fields (s : State) (n : Slot) (hst : (s.slot n).stage = .vacant)
    (hdesc : ¬(s.slot n).describes n) : s.loadResult n = .refusedRange := by
  rw [← SlotRec.fieldsInRange_iff] at hdesc
  simp [State.loadResult, hst, hdesc]

theorem State.loadResult_of_region (s : State) (n : Slot) (hlaw : s.regionLaw) (hst : (s.slot n).stage = .vacant)
    (hdesc : (s.slot n).describes n) (hregion : ¬s.regionFree n) : s.loadResult n = .refusedOverlap := by
  rw [s.regionFree_iff n hlaw hdesc] at hregion
  rw [← SlotRec.fieldsInRange_iff] at hdesc
  have hfail : (s.pastMemory n || s.overlaps n) = true := by
    rw [← Bool.not_eq_false, Bool.or_eq_false_iff]
    exact hregion
  simp [State.loadResult, hst, hdesc, hfail]

theorem State.loadResult_of_passes (s : State) (n : Slot) (hlaw : s.regionLaw) (hst : (s.slot n).stage = .vacant)
    (hdesc : (s.slot n).describes n) (hregion : s.regionFree n) : s.loadResult n = .ok := by
  obtain ⟨hpast, hoverlaps⟩ := (s.regionFree_iff n hlaw hdesc).mp hregion
  rw [← SlotRec.fieldsInRange_iff] at hdesc
  simp [State.loadResult, hst, hdesc, hpast, hoverlaps]

/-- A LOADED slot passes again: the law of regions is what its own LOAD checked. -/
theorem State.loadResult_of_loaded (s : State) (n : Slot) (hlaw : s.regionLaw) (hst : (s.slot n).stage = .loaded) :
    s.loadResult n = .ok := by
  obtain ⟨hfields, hpast, hoverlaps⟩ := hlaw n (by rw [hst]; decide)
  simp [State.loadResult, hst, hfields, hpast, hoverlaps]

/-! What a LOAD does, by its result (R178). -/

theorem State.loadDescriptor_of_ne (s : State) (v : Word) (hv : v ≠ 1#16) :
    s.loadDescriptor v = s.setStatus .refusedRange := by
  simp [State.loadDescriptor, hv]

section
variable (s : State) (n : Slot) (haddr : s.mi.addr = n.val * 16 + 14)
include haddr

theorem State.loadDescriptor_of_refused (st : PortalStatus) (hres : s.loadResult n = st) (hst : st ≠ .ok) :
    s.loadDescriptor 1#16 = s.setStatus st := by
  simp only [State.loadDescriptor, haddr, descriptorSlot_of_addr n 14 (by decide), hres]
  cases st
  case ok => exact absurd rfl hst
  all_goals rfl

theorem State.loadDescriptor_of_vacant (hres : s.loadResult n = .ok) (hst : (s.slot n).stage = .vacant) :
    s.loadDescriptor 1#16 =
      { s with
        slots := s.slots.set n.val (s.handedTo n .loaded)
        acc := s.locksOff n
        mi := s.mi.wrote } := by
  simp only [State.loadDescriptor, haddr, descriptorSlot_of_addr n 14 (by decide), hres, hst, if_true]
  rw [State.takenWrite_eq, State.changeStage_eq, SlotRec.enter_guarded _ .loaded rfl]
  rfl

theorem State.loadDescriptor_of_loaded (hres : s.loadResult n = .ok) (hst : (s.slot n).stage = .loaded) :
    s.loadDescriptor 1#16 = { s with mi := s.mi.wrote } := by
  simp only [State.loadDescriptor, haddr, descriptorSlot_of_addr n 14 (by decide), hres, hst]
  exact s.takenWrite_eq

end

/-- Settles O44: each clause names the result of the LOAD's checks, and what a LOAD does follows from its result. -/
theorem loads : Obligations.Loads := by
  unfold Obligations.Loads
  intro s w m v n hup hlaw hword hmode htable haddr
  have hrow : s.mi.portalWrite = .load := s.mi.portalWrite_of_descriptor n 14 (by decide) hmode htable haddr
  have hplace : (s.tookIn m).mi.addr = n.val * 16 + 14 := (Management.addr_of_intake hword).trans haddr
  rw [exec_load_of_word s w m v hup hword hrow]
  refine ⟨fun hv => ?other, ?stage, ?fields, ?region, ?passes, ?loaded⟩
  case other => rw [State.loadDescriptor_of_ne _ v hv, State.setStatus_tookIn]
  case stage =>
    rintro rfl hvacant hloaded
    rw [State.loadDescriptor_of_refused _ n hplace .refusedStage
      ((s.tookIn m).loadResult_of_stage n hvacant hloaded) (by decide), State.setStatus_tookIn]
  case fields =>
    rintro rfl hst hdesc
    rw [State.loadDescriptor_of_refused _ n hplace .refusedRange
      ((s.tookIn m).loadResult_of_fields n hst hdesc) (by decide), State.setStatus_tookIn]
  case region =>
    rintro rfl hst hdesc hregion
    rw [State.loadDescriptor_of_refused _ n hplace .refusedOverlap
      ((s.tookIn m).loadResult_of_region n hlaw hst hdesc hregion) (by decide), State.setStatus_tookIn]
  case passes =>
    rintro rfl hst hdesc hregion
    rw [State.loadDescriptor_of_vacant _ n hplace ((s.tookIn m).loadResult_of_passes n hlaw hst hdesc hregion) hst]
    rfl
  case loaded =>
    rintro rfl hst
    rw [State.loadDescriptor_of_loaded _ n hplace ((s.tookIn m).loadResult_of_loaded n hlaw hst) hst]
    rfl

end Sys2Proof.Machine
end

section
/-! SUPPORT. What a step can do to the state the laws speak of: a list of moves, each of them one change with its condition, and the state after a step
as the end of a path of such moves. -/

namespace Sys2Proof.Machine

/-! What the laws read. -/

/-- Two states that agree in everything a law speaks of. -/
structure SameBooks (s t : State) : Prop where
  slots : t.slots = s.slots
  locks : t.acc.locks = s.acc.locks
  verified : t.su.verified = s.su.verified
  timing : t.su.timing = s.su.timing
  directory : t.directory = s.directory
  freezeList : t.cc.freezeList = s.cc.freezeList
  freeze : t.cc.freeze = s.cc.freeze
  queue : t.mp.queue = s.mp.queue
  op : t.mp.op = s.mp.op
  sweepWait : t.mp.sweepWait = s.mp.sweepWait
  sw : t.sw = s.sw
  log : t.fu.log = s.fu.log
  nextSeq : t.fu.nextSeq = s.fu.nextSeq
  overflow : t.fu.overflow = s.fu.overflow
  pins : t.pins = s.pins
  mem : t.mem = s.mem

theorem SameBooks.refl (s : State) : SameBooks s s := by constructor <;> rfl

theorem SameBooks.slot {s t : State} (h : SameBooks s t) (n : Slot) : t.slot n = s.slot n := by
  unfold State.slot; rw [h.slots]

/-! Conditions of the moves. -/

/-- A slot may hold an established key in this stage (R79). -/
def SlotRec.mayHoldKey (r : SlotRec) : Prop :=
  r.stage.keyed = true ∨ r.stage = .held ∧ r.heldFrom.any Stage.keyed = true

/-- A slot's record served within its stage: the timers run down or start in FROZEN, completion flags rise, the read-back moves on or begins afresh,
and what the laws do not read changes at will. `limit` is the retry limit. -/
structure SlotRec.Serves (limit : Nat) (r r' : SlotRec) : Prop where
  stage : r'.stage = r.stage
  heldFrom : r'.heldFrom = r.heldFrom
  desc : r'.desc = r.desc
  pred : r'.pred = r.pred
  succ : r'.succ = r.succ
  keyEst : r'.keyEst = r.keyEst
  drainCount : r'.drainCount = r.drainCount
  guardTimer : r'.guardTimer.isSome = true → r.guardTimer.isSome = true
  retryTimer : r'.retryTimer.isSome = true → r.retryTimer.isSome = true ∨ r.stage = .frozen
  flags : r.stage = .verified ∨ r.heldFrom = some .verified →
    (r.punch = true → r'.punch = true) ∧ (r.print = true → r'.print = true)
  rbPtr : r'.rbPtr = 0x170 ∨ r.rbPtr ≤ r'.rbPtr ∧ (r'.rbPtr = r.rbPtr ∨ r'.rbPtr ≤ 0x210)
  retryCount : r'.retryCount = 0 ∨ r'.retryCount = r.retryCount ∨ r'.retryCount = raisedCount r.retryCount limit

theorem SlotRec.Serves.refl (limit : Nat) (r : SlotRec) : r.Serves limit r := by
  constructor
  case retryTimer => exact Or.inl
  all_goals simp

/-- The stage change of a slot, with the lists of slots following it (R59, R97, R134). -/
def State.relocate (s : State) (n : Slot) (st : Stage) : State :=
  { s.changeStage n st with
    su := { s.su with verified := if st = .verified then s.su.verified ++ [n] else s.su.verified }
    cc := { s.cc with freezeList := if st = .freezing then s.cc.freezeList ++ [n] else s.cc.freezeList }
    sw :=
      if (s.slot n).stage = .sweeping then s.sw.without n
      else if st = .sweeping then { s.sw with queue := s.sw.queue ++ [n] }
      else s.sw }

/-- The condition under which a slot moves to a stage other than VACANT: what the laws of the new stage ask for, as far as the old stage does not
bring it along. -/
structure State.MayEnter (s : State) (n : Slot) (st : Stage) : Prop where
  occupied : st ≠ .vacant
  held : st = .held → (s.slot n).stage.holdable = true
  verified : st = .verified →
    (s.slot n).heldFrom = some .verified ∨ (s.slot n).punch = true ∧ (s.slot n).print = true
  retry : (s.slot n).stage = .frozen → (s.slot n).retryTimer = none
  links : (s.slot n).inService = true →
    st ≠ .loaded ∧ st ≠ .sweeping ∨ (s.slot n).pred = none ∧ (s.slot n).succ = none
  key : (s.slot n).mayHoldKey → st.keyed = true ∨ st = .held ∨ (s.slot n).keyEst = false
  region : (s.slot n).stage ≠ .vacant ∨
    (s.slot n).fieldsInRange n = true ∧ s.pastMemory n = false ∧ s.overlaps n = false
  offVerified : (s.slot n).stage = .verified → n ∉ s.su.verified
  offFreezeList : (s.slot n).stage = .freezing → n ∉ s.cc.freezeList
  sweeping : (s.slot n).stage = .sweeping → st = .held

/-- Both halves of the links between a slot and its predecessor (R86). -/
def State.linkPair (s : State) (n p : Slot) : State :=
  (s.modSlot n fun r => { r with pred := some p }).modSlot p fun r => { r with succ := some n }

/-- An operation that memory may be performing after a move: none; the head of a queue with an entry; that of before, abandoned or not; or one
granted to the current freeze or the current sweep (R98, R135). -/
def State.Performs (s : State) : Option MemOp → Prop
  | none => True
  | some .queueHead => s.mp.op = some .queueHead ∨ s.mp.queue ≠ []
  | some (.freezeRead _ k pa _) =>
    (∃ m b, s.mp.op = some (.freezeRead m k pa b)) ∨
      ∃ f, s.cc.freeze = some f ∧ pa = (s.slot f.slot).base * 4096 + freezeReadOffset k
  | some (.sweepBurst _ _ pa _) =>
    (∃ m j b, s.mp.op = some (.sweepBurst m j pa b)) ∨
      ∃ w, s.sw.sweep = some w ∧ w.done < (s.slot w.slot).limit * 64 ∧
        pa = (s.slot w.slot).base * 4096 + 64 * w.done

/-- The end of a freeze: its frozen CRC stored, its slot off the list and FROZEN (R99). -/
def State.endFreeze (s : State) (n : Slot) (crc : Word) : State :=
  ({ s with cc := { s.cc with freezeList := s.cc.freezeList.filter (fun m => m != n), freeze := none } }.modSlot n
    fun r => { r with frozenCrc := crc }).changeStage n .frozen

/-- The end of a sweep: its slot off the queue and VACANT (R137). -/
def State.endSweep (s : State) (n : Slot) : State :=
  { s with sw := { queue := s.sw.queue.filter fun m => m != n, sweep := none } }.vacate n

/-! The moves. -/

/-- One change to the state, with the condition under which a step makes it. -/
inductive Move : State → State → Prop
  /-- Nothing that a law reads changes. -/
  | books {s t : State} (h : SameBooks s t) : Move s t
  /-- Slots are served within their stages. -/
  | serve {s : State} (v : Vector SlotRec 64)
      (h : ∀ n : Slot, (s.slot n).Serves s.su.timing.retryLimit.toNat v[n.val]) : Move s { s with slots := v }
  /-- A slot moves to a stage other than VACANT. -/
  | enter {s : State} (n : Slot) (st : Stage) (h : s.MayEnter n st) : Move s (s.relocate n st)
  /-- An OPEN links a LOADED slot behind one in service (R85, R86). -/
  | openBehind {s : State} (n p : Slot) (hn : (s.slot n).stage = .loaded) (hp : (s.slot p).inService = true)
      (hsucc : (s.slot p).succ = none) (hne : p ≠ n) : Move s ((s.linkPair n p).relocate n .scanning)
  /-- A key that no other slot holds is established (R74). -/
  | establish {s : State} (n : Slot) (hn : (s.slot n).stage = .decoding) (hdup : s.duplicateOf n = none) :
      Move s (s.establishKey n)
  /-- A LOADED slot returns to VACANT (R52). -/
  | empty {s : State} (n : Slot) (hn : (s.slot n).stage = .loaded) : Move s (s.vacate n)
  /-- The sweep under way has done its last burst (R137). -/
  | endSweep {s : State} (w : Sweep) (hw : s.sw.sweep = some w) :
      Move s (s.endSweep w.slot)
  /-- The freeze under way has returned its third read (R99). -/
  | endFreeze {s : State} (f : Freeze) (crc : Word) (hf : s.cc.freeze = some f) :
      Move s (s.endFreeze f.slot crc)
  | releaseKey {s : State} (n : Slot) : Move s (s.releaseKey n)
  | unlink {s : State} (n : Slot) : Move s (s.unlink n)
  /-- A descriptor word is stored for a VACANT slot (R177). -/
  | store {s : State} (n : Slot) (k : Nat) (v : Word) (hn : (s.slot n).stage = .vacant) :
      Move s (s.modSlot n fun r => r.store k v)
  | custodyReset {s : State} : Move s s.resetCustody
  /-- A slot leaves the freeze order list, with the freeze under way if it is the slot's (R101). -/
  | dropFreeze {s : State} (n : Slot) :
      Move s { s with
        cc := { s.cc with
          freezeList := s.cc.freezeList.filter fun m => m != n
          freeze := if s.cc.freeze.any fun f => f.slot == n then none else s.cc.freeze } }
  /-- The freeze under way goes on, or the head of the list is taken up (R98). -/
  | setFreeze {s : State} (f : Freeze)
      (h : s.cc.freezeList.head? = some f.slot ∨ ∃ f₀, s.cc.freeze = some f₀ ∧ f₀.slot = f.slot) :
      Move s { s with cc := { s.cc with freeze := some f } }
  /-- The sweep under way goes on, or the head of the queue is taken up (R136). -/
  | setSweep {s : State} (w : Sweep)
      (h : s.sw.queue.head? = some w.slot ∨ ∃ w₀, s.sw.sweep = some w₀ ∧ w₀.slot = w.slot) :
      Move s { s with sw := { s.sw with sweep := some w } }
  | leaveVerified {s : State} (n : Slot) : Move s (s.leaveVerified n)
  /-- A timing word in range is set (R66). -/
  | timing {s : State} (a : Nat) (v : Word) (h : timingInRange a v = true) :
      Move s { s with su := { s.su with timing := s.su.timing.set a v } }
  /-- Locks end or count down. -/
  | locks {s : State} (locks : List Lock) (hslot : (locks.map Lock.slot).Sublist (s.acc.locks.map Lock.slot))
      (htag : (locks.map Lock.tag).Sublist (s.acc.locks.map Lock.tag)) :
      Move s { s with acc := { s.acc with locks := locks } }
  /-- A lock is created on an unguarded slot that carries none, for an agent that holds none (R118). -/
  | lock {s : State} (l : Lock) (hg : (s.slot l.slot).guardActive = false)
      (hst : (s.slot l.slot).stage.hasRights = true) (hslot : ∀ x ∈ s.acc.locks, x.slot ≠ l.slot)
      (htag : ∀ x ∈ s.acc.locks, x.tag ≠ l.tag) :
      Move s { s with acc := { s.acc with locks := s.acc.locks ++ [l] } }
  /-- An access to the region of a slot outside VACANT takes a free place in the memory queue (R125). -/
  | push {s : State} (e : QEntry) (hroom : s.mp.queue.length < 16) (hst : (s.slot e.slot).stage ≠ .vacant)
      (hin : e.pa + e.size ≤ ((s.slot e.slot).base + max 1 (s.slot e.slot).limit) * 4096)
      (hdata : e.wr = true → e.data.length = e.size) : Move s { s with mp := s.mp.push e }
  /-- The queue's head is answered (R126). -/
  | complete {s : State} (e : QEntry) (rest : List QEntry) (hq : s.mp.queue = e :: rest) : Move s (s.completeHead e)
  /-- Memory begins, goes on with or ends an operation (R128). -/
  | perform {s : State} (op : Option MemOp) (wait : Nat) (hop : s.Performs op) (hwait : wait = s.mp.sweepWait ∨ wait ≤ 16) :
      Move s { s with mp := { s.mp with op := op, sweepWait := wait } }
  /-- A record with the next sequence number is entered (R157). -/
  | record {s : State} (x : LogRecord) (hseq : x.seq = s.fu.nextSeq) (hroom : s.fu.log.length < 32) :
      Move s { s with fu := { s.fu with log := s.fu.log ++ [x], nextSeq := s.fu.nextSeq + 1#16 } }
  /-- A record is lost (R158). -/
  | lose {s : State} (hfull : s.fu.log ≠ []) : Move s { s with fu := { s.fu with overflow := true } }
  | popLog {s : State} : Move s s.popLog
  | emptyLog {s : State} : Move s s.emptyLog
  /-- Bytes land in staging memory. -/
  | write {s : State} (pa : Nat) (bytes : List Byte) : Move s { s with mem := s.mem.writeBytes pa bytes }

/-- The state after some moves, one after another. -/
def Path (s t : State) : Prop := Relation.ReflTransGen Move s t

theorem Path.refl (s : State) : Path s s := Relation.ReflTransGen.refl

theorem Path.trans {s t u : State} (h : Path s t) (h' : Path t u) : Path s u := Relation.ReflTransGen.trans h h'

theorem Move.path {s t : State} (h : Move s t) : Path s t := Relation.ReflTransGen.single h

theorem Path.move {s t u : State} (h : Path s t) (h' : Move t u) : Path s u := Relation.ReflTransGen.tail h h'

theorem Path.books {s t u : State} (h : Path s t) (h' : SameBooks t u) : Path s u := h.move (.books h')

/-- A predicate that every move keeps holds at the end of every path. -/
theorem Path.keeps {P : State → Prop} (hmove : ∀ s t, Move s t → P s → P t) {s t : State} (h : Path s t) (hs : P s) :
    P t := by
  induction h with
  | refl => exact hs
  | tail _ hm ih => exact hmove _ _ hm ih

/-- No move changes RESET_N or the straps. -/
theorem Move.pins_eq {s t : State} (h : Move s t) : t.pins = s.pins := by
  cases h with
  | books h => exact h.pins
  | unlink n => rw [State.unlink_eq]
  | _ => rfl

theorem Path.pins_eq {s t : State} (h : Path s t) : t.pins = s.pins := by
  induction h with
  | refl => rfl
  | tail _ hm ih => rw [hm.pins_eq, ih]

end Sys2Proof.Machine
end

section
/-! SUPPORT. What the moves do to the slots' records, and the laws of the records themselves: ranges, held-from stages, completion flags and retry
timers (R11, R66, R96, R109, R114). -/

namespace Sys2Proof.Machine

/-! Every slot's record after a move. -/

theorem State.slot_changeStage (s : State) (n m : Slot) (st : Stage) :
    (s.changeStage n st).slot m =
      if m = n then (s.slot n).enter st (s.queuedOf n) s.su.timing.guardInterval.toNat else s.slot m := by
  by_cases h : m = n
  · subst h; simp
  · simp [h]

theorem State.slot_relocate (s : State) (n m : Slot) (st : Stage) :
    (s.relocate n st).slot m =
      if m = n then (s.slot n).enter st (s.queuedOf n) s.su.timing.guardInterval.toNat else s.slot m :=
  s.slot_changeStage n m st

theorem State.slot_linkPair (s : State) (n p m : Slot) (h : p ≠ n) :
    (s.linkPair n p).slot m =
      if m = p then { s.slot p with succ := some n } else if m = n then { s.slot n with pred := some p } else s.slot m := by
  unfold State.linkPair
  simp only [State.slot_modSlot, if_neg h]

theorem State.slot_vacate (s : State) (n m : Slot) :
    (s.vacate n).slot m = if m = n then (s.slot n).emptied else s.slot m := by
  rw [State.vacate_eq]
  exact s.slot_modSlot n m fun _ => (s.slot n).emptied

theorem State.slot_endSweep (s : State) (n m : Slot) :
    (s.endSweep n).slot m = if m = n then (s.slot n).emptied else s.slot m :=
  State.slot_vacate _ n m

theorem State.slot_endFreeze (s : State) (n m : Slot) (crc : Word) :
    (s.endFreeze n crc).slot m =
      if m = n then { s.slot n with frozenCrc := crc }.enter .frozen (s.queuedOf n) s.su.timing.guardInterval.toNat
      else s.slot m := by
  unfold State.endFreeze
  rw [State.slot_changeStage]
  simp only [State.slot_modSlot, if_true]
  split <;> rfl

theorem State.slot_establishKey (s : State) (n m : Slot) :
    (s.establishKey n).slot m =
      if m = n then
        { s.slot n with keyEst := true }.enter .composing (s.queuedOf n) s.su.timing.guardInterval.toNat
      else s.slot m := by
  unfold State.establishKey
  rw [State.slot_changeStage]
  simp only [State.slot_modSlot, if_true]
  split <;> rfl

theorem State.slot_resetCustody (s : State) (m : Slot) : s.resetCustody.slot m = (s.slot m).custodyReset :=
  mapVector_get SlotRec.custodyReset s.slots m

theorem State.slot_completeHead (s : State) (e : QEntry) (m : Slot) :
    (s.completeHead e).slot m =
      if m = e.slot then { s.slot e.slot with drainCount := (s.slot e.slot).drainCount - 1 } else s.slot m := by
  unfold State.completeHead State.lowerDrain
  rw [State.slot_modSlot]
  rfl

/-- Every record of `t` is that of `s` but for its links. -/
def State.Relinks (s t : State) : Prop := ∀ m : Slot, ∃ p q, t.slot m = { s.slot m with pred := p, succ := q }

theorem State.relinks_unlink (s : State) (n : Slot) : s.Relinks (s.unlink n) := by
  intro m
  rw [State.slot_unlink]
  split
  case isTrue hm => subst hm; exact ⟨_, _, rfl⟩
  case isFalse => exact ⟨_, _, rfl⟩

theorem State.relinks_linkPair (s : State) (n p : Slot) (h : p ≠ n) : s.Relinks (s.linkPair n p) := by
  intro m
  rw [State.slot_linkPair _ _ _ _ h]
  split
  case isTrue hm => subst hm; exact ⟨_, _, rfl⟩
  case isFalse =>
    split
    case isTrue hm => subst hm; exact ⟨_, _, rfl⟩
    case isFalse => exact ⟨_, _, rfl⟩

/-! What a move makes of one record. -/

/-- The record of a slot before and after a move, as far as the laws of the records read it. -/
inductive SlotRec.Becomes (limit : Nat) (r : SlotRec) : SlotRec → Prop
  | served {r' : SlotRec} (h : r.Serves limit r') : Becomes limit r r'
  /-- Descriptor, links, key and drain count are written. -/
  | edited (desc : Vector Word 14) (pred succ : Option Slot) (keyEst : Bool) (drainCount : Nat) :
      Becomes limit r
        { r with desc := desc, pred := pred, succ := succ, keyEst := keyEst, drainCount := drainCount }
  /-- The slot moves to a stage other than VACANT. -/
  | entered (st : Stage) (queued guardInterval : Nat) (pred : Option Slot) (keyEst : Bool) (crc : Word)
      (hheld : st = .held → r.stage.holdable = true)
      (hverified : st = .verified → r.heldFrom = some .verified ∨ r.punch = true ∧ r.print = true)
      (hretry : st ≠ .frozen → r.stage = .frozen → r.retryTimer = none) :
      Becomes limit r ({ r with pred := pred, keyEst := keyEst, frozenCrc := crc }.enter st queued guardInterval)
  | emptied : Becomes limit r r.emptied
  | reset : Becomes limit r r.custodyReset

theorem SlotRec.Becomes.refl (limit : Nat) (r : SlotRec) : r.Becomes limit r := .served (.refl limit r)

/-- Every record after a move is one that the record before may become. -/
theorem Move.becomes {s t : State} (h : Move s t) (m : Slot) :
    (s.slot m).Becomes s.su.timing.retryLimit.toNat (t.slot m) := by
  cases h with
  | books h => rw [h.slot]; exact .refl _ _
  | serve v h => exact .served (h m)
  | enter n st h =>
    rw [State.slot_relocate]
    split
    case isTrue hm =>
      subst hm
      exact .entered st _ _ _ _ _ h.held h.verified fun _ => h.retry
    case isFalse => exact .refl _ _
  | openBehind n p hn hp hsucc hne =>
    rw [State.slot_relocate, State.slot_linkPair _ _ _ _ hne, State.slot_linkPair _ _ _ _ hne, if_neg hne.symm,
      if_pos rfl]
    split
    case isTrue hm =>
      subst hm
      exact .entered .scanning _ _ _ _ _ nofun nofun fun _ hf => absurd (hn.symm.trans hf) (by decide)
    case isFalse =>
      split
      case isTrue hp => subst hp; exact .edited _ _ _ _ _
      case isFalse => exact .refl _ _
  | establish n hn =>
    rw [State.slot_establishKey]
    split
    case isTrue hm =>
      subst hm
      exact .entered .composing _ _ _ _ _ nofun nofun fun _ hf => absurd (hn.symm.trans hf) (by decide)
    case isFalse => exact .refl _ _
  | empty n =>
    rw [State.slot_vacate]
    split
    case isTrue hm => subst hm; exact .emptied
    case isFalse => exact .refl _ _
  | endSweep w =>
    rw [State.slot_endSweep]
    split
    case isTrue hm => subst hm; exact .emptied
    case isFalse => exact .refl _ _
  | endFreeze f crc =>
    rw [State.slot_endFreeze]
    split
    case isTrue hm =>
      subst hm
      exact .entered .frozen _ _ _ _ _ nofun nofun fun hne => absurd rfl hne
    case isFalse => exact .refl _ _
  | releaseKey n =>
    rw [State.slot_releaseKey]
    split
    case isTrue hm => subst hm; exact .edited _ _ _ _ _
    case isFalse => exact .refl _ _
  | unlink n =>
    rw [State.slot_unlink]
    split
    case isTrue hm => subst hm; exact .edited _ _ _ _ _
    case isFalse => exact .edited _ _ _ _ _
  | store n k v =>
    rw [State.slot_modSlot]
    split
    case isTrue hm => subst hm; exact .edited _ _ _ _ _
    case isFalse => exact .refl _ _
  | custodyReset => rw [State.slot_resetCustody]; exact .reset
  | complete e rest =>
    rw [State.slot_completeHead]
    split
    case isTrue hm => subst hm; exact .edited _ _ _ _ _
    case isFalse => exact .refl _ _
  | _ => exact .refl _ _

/-! The laws of the records. -/

theorem Move.keeps_heldLaw {s t : State} (h : Move s t) (hs : s.heldLaw) : t.heldLaw := by
  intro n
  obtain ⟨hheld, hother⟩ := hs n
  have hb := h.becomes n
  generalize s.slot n = r at hheld hother hb
  generalize t.slot n = r' at hb
  cases hb with
  | served h => rw [h.stage, h.heldFrom]; exact ⟨hheld, hother⟩
  | edited => exact ⟨hheld, hother⟩
  | entered st q g pred keyEst crc hin =>
    refine ⟨fun hst => ?_, fun hst => if_neg hst⟩
    obtain rfl : st = .held := hst
    exact hin rfl
  | emptied => exact ⟨nofun, fun _ => rfl⟩
  | reset => exact ⟨nofun, fun _ => rfl⟩

theorem Move.keeps_verifiedLaw {s t : State} (h : Move s t) (hs : s.verifiedLaw) : t.verifiedLaw := by
  intro n
  obtain ⟨hflags, htimer⟩ := hs n
  have hb := h.becomes n
  generalize s.slot n = r at hflags htimer hb
  generalize t.slot n = r' at hb
  cases hb with
  | served h =>
    rw [h.stage, h.heldFrom]
    refine ⟨fun hv => ?_, fun ht => (h.retryTimer ht).elim htimer id⟩
    obtain ⟨hpunch, hprint⟩ := hflags hv
    obtain ⟨hpunch', hprint'⟩ := h.flags hv
    exact ⟨hpunch' hpunch, hprint' hprint⟩
  | edited => exact ⟨hflags, htimer⟩
  | entered st q g pred keyEst crc hheld hverified hretry =>
    refine ⟨fun hv => ?_, fun ht => ?_⟩
    · rcases hv with hv | hv
      · exact (hverified hv).elim (fun hf => hflags (Or.inr hf)) id
      · by_cases hst : st = .held
        · refine hflags (Or.inl ?_)
          simpa [SlotRec.enter, hst] using hv
        · simp [SlotRec.enter, hst] at hv
    · by_contra hne
      have hnone : r.retryTimer = none := hretry hne (htimer ht)
      simp [SlotRec.enter, hnone] at ht
  | emptied => exact ⟨nofun, nofun⟩
  | reset => exact ⟨nofun, nofun⟩

/-- The retry count rises at most one above the limit (R112). -/
theorem raisedCount_le (count limit : Nat) (hl : limit ≤ 7) (hc : count ≤ 8) : raisedCount count limit ≤ 8 := by
  unfold raisedCount
  split <;> omega

/-- The timing table after a move: as it was, or with one word in range set. -/
theorem Move.timing_cases {s t : State} (h : Move s t) :
    t.su.timing = s.su.timing ∨ ∃ a v, timingInRange a v = true ∧ t.su.timing = s.su.timing.set a v := by
  cases h with
  | books h => exact Or.inl h.timing
  | unlink n => rw [State.unlink_eq]; exact Or.inl rfl
  | timing a v h => exact Or.inr ⟨a, v, h, rfl⟩
  | _ => exact Or.inl rfl

/-- The ranges of the timing table (R66). -/
def Timing.InRange (t : Timing) : Prop :=
  t.guardInterval.toNat ≤ 15 ∧ (1 ≤ t.lockTimeout.toNat ∧ t.lockTimeout.toNat ≤ 255) ∧ t.retryDelay.toNat ≤ 255 ∧
    t.retryLimit.toNat ≤ 7

theorem Timing.inRange_set (t : Timing) (a : Nat) (v : Word) (ht : t.InRange) (hv : timingInRange a v = true) :
    (t.set a v).InRange := by
  obtain ⟨hguard, hlock, hdelay, hlimit⟩ := ht
  unfold timingInRange at hv
  split at hv
  all_goals simp only [Bool.and_eq_true, decide_eq_true_eq] at hv
  · exact ⟨hv, hlock, hdelay, hlimit⟩
  · exact ⟨hguard, hv, hdelay, hlimit⟩
  · exact ⟨hguard, hlock, hv, hlimit⟩
  · rename_i h0 h1 h2
    unfold Timing.set
    split
    · exact absurd rfl h0
    · exact absurd rfl h1
    · exact absurd rfl h2
    · exact ⟨hguard, hlock, hdelay, hv⟩

theorem Move.keeps_rangeLaw {s t : State} (h : Move s t) (hs : s.rangeLaw) : t.rangeLaw := by
  obtain ⟨hslots, htiming⟩ := hs
  have hin : s.su.timing.InRange := htiming
  have hlimit := htiming.2.2.2
  constructor
  · intro n
    obtain ⟨hlow, hhigh, hcount⟩ := hslots n
    have hb := h.becomes n
    generalize s.slot n = r at hlow hhigh hcount hb
    generalize t.slot n = r' at hb
    cases hb with
    | served h =>
      have hraised := raisedCount_le _ _ hlimit hcount
      have hptr := h.rbPtr
      have hcnt := h.retryCount
      omega
    | edited => exact ⟨hlow, hhigh, hcount⟩
    | entered => exact ⟨hlow, hhigh, hcount⟩
    | emptied => simp [SlotRec.emptied]
    | reset => simp [SlotRec.custodyReset, SlotRec.reset]
  · have hout : t.su.timing.InRange := by
      rcases h.timing_cases with he | ⟨a, v, hv, he⟩
      · rw [he]; exact hin
      · rw [he]; exact Timing.inRange_set _ _ _ hin hv
    exact hout

end Sys2Proof.Machine
end

section
/-! SUPPORT. The moves keep the laws of staging memory, of the memory queue, of the custody log and of the lock table (log 7; R117, R120, R125, R127,
R129, R156 to R158). -/

namespace Sys2Proof.Machine

/-! Staging memory. -/

theorem Move.keeps_memoryLaw {s t : State} (h : Move s t) (hs : s.memoryLaw) : t.memoryLaw := by
  cases h with
  | books h => unfold State.memoryLaw; rw [h.mem]; exact hs
  | unlink n => rw [State.unlink_eq]; exact hs
  | write pa bytes => exact Memory.wf_writeBytes _ pa bytes hs
  | _ => exact hs

/-! The memory queue. -/

theorem State.queuedOf_congr {s t : State} (h : t.mp.queue = s.mp.queue) (n : Slot) : t.queuedOf n = s.queuedOf n := by
  unfold State.queuedOf; rw [h]

/-- A drain count that a stage change sets counts no access too many (R47, R127). -/
theorem SlotRec.drainCount_enter_le (r : SlotRec) (st : Stage) (k g : Nat) : (r.enter st k g).drainCount ≤ k := by
  show (if st.drained = true then k else 0) ≤ k
  split
  · exact le_rfl
  · exact Nat.zero_le k

/-- Beside an answer, a move leaves each drain count as it is or sets it to no more than the slot's accesses in the queue. -/
theorem Move.drainCount_le {s t : State} (h : Move s t) (n : Slot) (hs : (s.slot n).drainCount ≤ s.queuedOf n) :
    (t.slot n).drainCount ≤ s.queuedOf n := by
  cases h with
  | books h => rw [h.slot]; exact hs
  | serve v h => exact (h n).drainCount.trans_le hs
  | enter m st h =>
    rw [State.slot_relocate]
    split
    case isTrue hm => subst hm; exact SlotRec.drainCount_enter_le _ _ _ _
    case isFalse => exact hs
  | openBehind m p hn hp hsucc hne =>
    rw [State.slot_relocate, State.slot_linkPair _ _ _ _ hne, State.slot_linkPair _ _ _ _ hne]
    split
    case isTrue hm => subst hm; exact SlotRec.drainCount_enter_le _ _ _ _
    case isFalse => split <;> simp_all
  | establish m =>
    rw [State.slot_establishKey]
    split
    case isTrue hm => subst hm; exact SlotRec.drainCount_enter_le _ _ _ _
    case isFalse => exact hs
  | empty m =>
    rw [State.slot_vacate]
    split
    case isTrue => exact Nat.zero_le _
    case isFalse => exact hs
  | endSweep w =>
    rw [State.slot_endSweep]
    split
    case isTrue => exact Nat.zero_le _
    case isFalse => exact hs
  | endFreeze f crc =>
    rw [State.slot_endFreeze]
    split
    case isTrue hm => subst hm; exact SlotRec.drainCount_enter_le _ _ _ _
    case isFalse => exact hs
  | releaseKey m => rw [State.slot_releaseKey]; split <;> simp_all
  | unlink m => rw [State.slot_unlink]; split <;> simp_all [State.cutFrom]
  | store m k v => rw [State.slot_modSlot]; split <;> simp_all [SlotRec.store]
  | custodyReset => rw [State.slot_resetCustody]; exact Nat.zero_le _
  | complete e rest =>
    rw [State.slot_completeHead]
    split
    case isTrue hm => subst hm; exact (Nat.sub_le _ _).trans hs
    case isFalse => exact hs
  | _ => exact hs

theorem Move.keeps_queueLaw {s t : State} (h : Move s t) (hs : s.queueLaw) : t.queueLaw := by
  obtain ⟨hlen, hwait, hdrain⟩ := hs
  have hle : ∀ n : Slot, (t.slot n).drainCount ≤ s.queuedOf n := fun n => h.drainCount_le n (hdrain n)
  cases h with
  | books h =>
    refine ⟨by rw [h.queue]; exact hlen, by rw [h.sweepWait]; exact hwait, fun n => ?_⟩
    rw [State.queuedOf_congr h.queue]; exact hle n
  | unlink m =>
    rw [State.unlink_eq] at hle ⊢
    exact ⟨hlen, hwait, hle⟩
  | custodyReset => exact ⟨hlen, Nat.zero_le _, hle⟩
  | push e hroom hst hin hdata =>
    refine ⟨?_, hwait, fun n => (hle n).trans ?_⟩
    · simp [MemoryPort.push]; omega
    · simp [State.queuedOf, MemoryPort.push, List.countP_append]
  | complete e rest hq =>
    refine ⟨?_, hwait, fun n => ?_⟩
    · show s.mp.queue.tail.length ≤ 16
      simp; omega
    · have hcount : s.queuedOf n = rest.countP (fun x => x.slot == n) + if e.slot = n then 1 else 0 := by
        simp [State.queuedOf, hq, List.countP_cons]
      have htail : (s.completeHead e).queuedOf n = rest.countP fun x => x.slot == n := by
        simp [State.queuedOf, State.completeHead, State.lowerDrain, hq]
      have hn := hdrain n
      rw [State.slot_completeHead, htail]
      split
      case isTrue hm => subst hm; simp at hcount ⊢; omega
      case isFalse hm => rw [if_neg (Ne.symm hm)] at hcount; omega
  | perform op wait hop hw =>
    refine ⟨hlen, ?_, hle⟩
    show wait ≤ 16
    omega
  | _ => exact ⟨hlen, hwait, hle⟩

/-! The custody log. -/

/-- The numbers of a log's records, the newest of which is one below the next number. -/
def seqRun (next : Word) (k : Nat) : List Word := (List.range k).map fun i => next - toWord (k - i)

theorem seqRun_succ (next : Word) (k : Nat) : seqRun (next + 1#16) (k + 1) = seqRun next k ++ [next] := by
  unfold seqRun
  rw [List.range_succ, List.map_append]
  congr 1
  · refine List.map_congr_left fun i hi => ?_
    have hik : k + 1 - i = (k - i) + 1 := by have := List.mem_range.mp hi; omega
    have hword : toWord (k - i + 1) = toWord (k - i) + 1#16 := by
      apply BitVec.eq_of_toNat_eq; simp [toWord]
    rw [hik, hword]
    bv_omega
  · simp only [List.map_cons, List.map_nil, Nat.add_sub_cancel_left]
    congr 1
    unfold toWord
    bv_omega

theorem seqRun_tail (next : Word) (k : Nat) : (seqRun next (k + 1)).tail = seqRun next k := by
  unfold seqRun
  rw [List.range_succ_eq_map, List.map_cons, List.tail_cons, List.map_map]
  refine List.map_congr_left fun i _ => ?_
  simp only [Function.comp, Nat.succ_eq_add_one, Nat.add_sub_add_right]

theorem Move.keeps_logLaw {s t : State} (h : Move s t) (hs : s.logLaw) : t.logLaw := by
  obtain ⟨hlen, hseq, hover⟩ := hs
  cases h with
  | books h => unfold State.logLaw; rw [h.log, h.nextSeq, h.overflow]; exact ⟨hlen, hseq, hover⟩
  | unlink n => rw [State.unlink_eq]; exact ⟨hlen, hseq, hover⟩
  | record x hx hroom =>
    refine ⟨by simp; omega, ?_, fun h => absurd h (by simp)⟩
    have hold : s.fu.log.map LogRecord.seq = seqRun s.fu.nextSeq s.fu.log.length := hseq
    have hnew : (s.fu.log ++ [x]).map LogRecord.seq =
        seqRun (s.fu.nextSeq + 1#16) (s.fu.log ++ [x]).length := by
      rw [List.map_append, hold, List.length_append, List.length_singleton, seqRun_succ, ← hx]; rfl
    exact hnew
  | lose hfull => exact ⟨hlen, hseq, fun h => absurd h hfull⟩
  | popLog =>
    refine ⟨?_, ?_, fun h => ?_⟩
    · show s.fu.log.tail.length ≤ 32
      simp; omega
    · have hold : s.fu.log.map LogRecord.seq = seqRun s.fu.nextSeq s.fu.log.length := hseq
      have hnew : s.fu.log.tail.map LogRecord.seq = seqRun s.fu.nextSeq s.fu.log.tail.length := by
        rw [List.map_tail, hold]
        rcases s.fu.log with _ | ⟨x, l⟩
        · rfl
        · exact seqRun_tail _ _
      exact hnew
    · have hnil : s.fu.log.tail = [] := h
      simp [State.popLog, hnil]
  | emptyLog => exact ⟨Nat.zero_le _, rfl, fun _ => rfl⟩
  | _ => exact ⟨hlen, hseq, hover⟩

/-! The lock table. -/

/-- The lock table at the end of a stage change, or of any other event that removes a slot's lock. -/
theorem State.lockLaw_of_filter {s t : State} (n : Slot) (hs : s.lockLaw)
    (hlocks : t.acc.locks = s.acc.locks.filter fun l => l.slot != n)
    (hslot : ∀ m : Slot, m ≠ n → (t.slot m).guardActive = (s.slot m).guardActive ∧ (t.slot m).stage = (s.slot m).stage) :
    t.lockLaw := by
  obtain ⟨hslots, htags, hfree⟩ := hs
  unfold State.lockLaw
  rw [hlocks]
  refine ⟨hslots.sublist (List.filter_sublist.map _), htags.sublist (List.filter_sublist.map _), fun l hl => ?_⟩
  obtain ⟨hmem, hne⟩ := List.mem_filter.mp hl
  obtain ⟨hguard, hstage⟩ := hslot l.slot (by simpa using hne)
  rw [hguard, hstage]
  exact hfree l hmem

/-- The lock table where no lock changes, no guard begins and no slot changes its stage. -/
theorem State.lockLaw_of_quieter {s t : State} (hs : s.lockLaw) (hlocks : t.acc.locks = s.acc.locks)
    (hslot : ∀ m : Slot, ((t.slot m).guardActive = true → (s.slot m).guardActive = true) ∧
      (t.slot m).stage = (s.slot m).stage) : t.lockLaw := by
  obtain ⟨hslots, htags, hfree⟩ := hs
  unfold State.lockLaw
  rw [hlocks]
  refine ⟨hslots, htags, fun l hl => ?_⟩
  obtain ⟨hguard, hrights⟩ := hfree l hl
  obtain ⟨hquiet, hstage⟩ := hslot l.slot
  refine ⟨?_, hstage ▸ hrights⟩
  rw [← Bool.not_eq_true] at hguard ⊢
  exact fun h => hguard (hquiet h)

theorem SlotRec.Serves.guardActive {limit : Nat} {r r' : SlotRec} (h : r.Serves limit r') :
    r'.guardActive = true → r.guardActive = true := by
  unfold SlotRec.guardActive SlotRec.drainFlag
  rw [h.drainCount, Bool.or_eq_true, Bool.or_eq_true]
  exact Or.imp_left h.guardTimer

theorem Move.keeps_lockLaw {s t : State} (h : Move s t) (hs : s.lockLaw) : t.lockLaw := by
  cases h with
  | books h => exact State.lockLaw_of_quieter hs h.locks fun m => by simp [h.slot]
  | serve v h => exact State.lockLaw_of_quieter hs rfl fun m => ⟨(h m).guardActive, (h m).stage⟩
  | enter n st h =>
    refine State.lockLaw_of_filter n hs rfl fun m hm => ?_
    rw [State.slot_relocate, if_neg hm]
    exact ⟨rfl, rfl⟩
  | openBehind n p hn hp hsucc hne =>
    refine State.lockLaw_of_filter n hs rfl fun m hm => ?_
    rw [State.slot_relocate, if_neg hm, State.slot_linkPair _ _ _ _ hne, if_neg hm]
    split
    case isTrue hp => subst hp; exact ⟨rfl, rfl⟩
    case isFalse => exact ⟨rfl, rfl⟩
  | establish n =>
    refine State.lockLaw_of_filter n hs rfl fun m hm => ?_
    rw [State.slot_establishKey, if_neg hm]
    exact ⟨rfl, rfl⟩
  | empty n =>
    refine State.lockLaw_of_filter n hs rfl fun m hm => ?_
    rw [State.slot_vacate, if_neg hm]
    exact ⟨rfl, rfl⟩
  | endSweep w =>
    refine State.lockLaw_of_filter w.slot hs rfl fun m hm => ?_
    rw [State.slot_endSweep, if_neg hm]
    exact ⟨rfl, rfl⟩
  | endFreeze f crc =>
    refine State.lockLaw_of_filter f.slot hs rfl fun m hm => ?_
    rw [State.slot_endFreeze, if_neg hm]
    exact ⟨rfl, rfl⟩
  | releaseKey n =>
    refine State.lockLaw_of_quieter hs rfl fun m => ?_
    rw [State.slot_releaseKey]
    split
    case isTrue hm => subst hm; exact ⟨id, rfl⟩
    case isFalse => exact ⟨id, rfl⟩
  | unlink n =>
    refine State.lockLaw_of_quieter hs (by rw [State.unlink_eq]) fun m => ?_
    rw [State.slot_unlink]
    split
    case isTrue hm => subst hm; exact ⟨id, rfl⟩
    case isFalse => exact ⟨id, rfl⟩
  | store n k v =>
    refine State.lockLaw_of_quieter hs rfl fun m => ?_
    rw [State.slot_modSlot]
    split
    case isTrue hm => subst hm; exact ⟨id, rfl⟩
    case isFalse => exact ⟨id, rfl⟩
  | custodyReset => exact ⟨List.nodup_nil, List.nodup_nil, nofun⟩
  | complete e rest =>
    refine State.lockLaw_of_quieter hs rfl fun m => ?_
    rw [State.slot_completeHead]
    split
    case isTrue hm =>
      subst hm
      refine ⟨fun hg => ?_, rfl⟩
      simp only [SlotRec.guardActive, SlotRec.drainFlag, Bool.or_eq_true, decide_eq_true_eq] at hg ⊢
      exact hg.imp_right fun hpos => hpos.trans_le (Nat.sub_le _ _)
    case isFalse => exact ⟨id, rfl⟩
  | locks locks hslot htag =>
    obtain ⟨hslots, htags, hfree⟩ := hs
    refine ⟨hslots.sublist hslot, htags.sublist htag, fun l hl => ?_⟩
    obtain ⟨x, hx, he⟩ := List.mem_map.mp (hslot.subset (List.mem_map_of_mem hl))
    exact he ▸ hfree x hx
  | lock l hg hst hslot htag =>
    obtain ⟨hslots, htags, hfree⟩ := hs
    refine ⟨?_, ?_, fun x hx => ?_⟩
    · rw [List.map_append, List.map_singleton, ← List.concat_eq_append]
      exact hslots.concat fun hm => (List.mem_map.mp hm).elim fun x hx => hslot x hx.1 hx.2
    · rw [List.map_append, List.map_singleton, ← List.concat_eq_append]
      exact htags.concat fun hm => (List.mem_map.mp hm).elim fun x hx => htag x hx.1 hx.2
    · rcases List.mem_append.mp hx with hx | hx
      · exact hfree x hx
      · obtain rfl := List.mem_singleton.mp hx
        exact ⟨hg, hst⟩
  | _ => exact hs

end Sys2Proof.Machine
end

section
/-! SUPPORT. The moves keep the laws of the lists of slots, of the live links and of the key directory (R59, R79, R83, R97, R98, R134, R136). -/

namespace Sys2Proof.Machine

/-! The lists of slots. -/

/-- The stages whose slots stand in a list (R59, R97, R134). -/
def Stage.listed : Stage → Bool
  | .freezing | .verified | .sweeping => true
  | .vacant | .loaded | .scanning | .decoding | .composing | .frozen | .held => false

/-- The freeze under way is of a slot in FREEZING (R97, R98). -/
theorem State.stage_of_freeze {s : State} (hs : s.listLaw) {f : Freeze} (hf : s.cc.freeze = some f) :
    (s.slot f.slot).stage = .freezing := by
  obtain ⟨-, ⟨-, hstage⟩, -, hhead, -⟩ := hs
  exact hstage _ (List.mem_of_head? (hhead f hf))

/-- The sweep under way is of a slot in SWEEPING (R134, R136). -/
theorem State.stage_of_sweep {s : State} (hs : s.listLaw) {w : Sweep} (hw : s.sw.sweep = some w) :
    (s.slot w.slot).stage = .sweeping := by
  obtain ⟨-, -, ⟨-, hstage⟩, -, hhead⟩ := hs
  exact (hstage _).mp (List.mem_of_head? (hhead w hw))

/-- The lists where none of them changes and no slot enters or leaves a listed stage. -/
theorem State.listLaw_of_lists {s t : State} (hs : s.listLaw) (hverified : t.su.verified = s.su.verified)
    (hlist : t.cc.freezeList = s.cc.freezeList) (hfreeze : t.cc.freeze = s.cc.freeze) (hsw : t.sw = s.sw)
    (hstage : ∀ m : Slot, (t.slot m).stage = (s.slot m).stage ∨
      (s.slot m).stage.listed = false ∧ (t.slot m).stage.listed = false) : t.listLaw := by
  have hsame : ∀ (m : Slot) (st : Stage), st.listed = true → ((t.slot m).stage = st ↔ (s.slot m).stage = st) := by
    intro m st hst
    rcases hstage m with he | ⟨h1, h2⟩
    · rw [he]
    · constructor
      · intro h; rw [h, hst] at h2; exact absurd h2 (by decide)
      · intro h; rw [h, hst] at h1; exact absurd h1 (by decide)
  obtain ⟨⟨hv, hv'⟩, ⟨hf, hf'⟩, ⟨hq, hq'⟩, hhead, hhead'⟩ := hs
  unfold State.listLaw
  rw [hverified, hlist, hfreeze, hsw]
  exact ⟨⟨hv, fun m hm => (hsame m _ rfl).mpr (hv' m hm)⟩, ⟨hf, fun m hm => (hsame m _ rfl).mpr (hf' m hm)⟩,
    ⟨hq, fun m => (hq' m).trans (hsame m _ rfl).symm⟩, hhead, hhead'⟩

/-- A list of the slots in a stage follows the stage change of a slot that does not stand in it. -/
theorem State.roster_relocate (s : State) (n : Slot) (st key : Stage) (l : List Slot) (hn : l.Nodup)
    (hl : ∀ m ∈ l, (s.slot m).stage = key) (hoff : (s.slot n).stage = key → n ∉ l) :
    (if st = key then l ++ [n] else l).Nodup ∧
      ∀ m ∈ if st = key then l ++ [n] else l, ((s.relocate n st).slot m).stage = key := by
  have hnot : n ∉ l := fun hm => hoff (hl n hm) hm
  have hrest : ∀ m ∈ l, ((s.relocate n st).slot m).stage = key := by
    intro m hm
    have hne : m ≠ n := fun he => hnot (he ▸ hm)
    rw [State.slot_relocate, if_neg hne]
    exact hl m hm
  by_cases hst : st = key
  · rw [if_pos hst]
    refine ⟨?_, fun m hm => ?_⟩
    · rw [← List.concat_eq_append]; exact hn.concat hnot
    · rcases List.mem_append.mp hm with hm | hm
      · exact hrest m hm
      · obtain rfl := List.mem_singleton.mp hm
        rw [State.slot_relocate, if_pos rfl]
        exact hst
  · rw [if_neg hst]; exact ⟨hn, hrest⟩

theorem head?_append_of_some {α : Type} {l m : List α} {x : α} (h : l.head? = some x) : (l ++ m).head? = some x := by
  rw [List.head?_append, h]; rfl

/-- The head of a list stays when another entry leaves. -/
theorem head?_filter_of_ne {l : List Slot} {x n : Slot} (h : l.head? = some x) (hne : x ≠ n) :
    (l.filter fun m => m != n).head? = some x := by
  rcases l with _ | ⟨y, l⟩
  · exact absurd h nofun
  · obtain rfl : y = x := Option.some.inj h
    simp [hne]

/-- The sweep queue without a slot that leaves SWEEPING. -/
theorem State.sweepQueue_without {s t : State} (n : Slot) (hs : s.listLaw) (hn : (t.slot n).stage ≠ .sweeping)
    (hother : ∀ m : Slot, m ≠ n → (t.slot m).stage = (s.slot m).stage) :
    (s.sw.without n).queue.Nodup ∧ (∀ m : Slot, m ∈ (s.sw.without n).queue ↔ (t.slot m).stage = .sweeping) ∧
      ∀ w ∈ (s.sw.without n).sweep, (s.sw.without n).queue.head? = some w.slot := by
  obtain ⟨-, -, ⟨hq, hq'⟩, -, hhead⟩ := hs
  refine ⟨hq.filter _, fun m => ?_, fun w hw => ?_⟩
  · by_cases hm : m = n
    · subst hm; simp [SweepEngine.without, hn]
    · rw [hother m hm, ← hq' m]; simp [SweepEngine.without, hm]
  · simp only [SweepEngine.without, Option.mem_def, Option.ite_none_left_eq_some] at hw ⊢
    obtain ⟨hne, hw⟩ := hw
    refine head?_filter_of_ne (hhead w hw) ?_
    simpa [hw] using hne

theorem State.listLaw_relocate {s : State} {n : Slot} {st : Stage} (hs : s.listLaw) (h : s.MayEnter n st) :
    (s.relocate n st).listLaw := by
  have hother : ∀ m : Slot, m ≠ n → ((s.relocate n st).slot m).stage = (s.slot m).stage := fun m hm => by
    rw [State.slot_relocate, if_neg hm]
  have hself : ((s.relocate n st).slot n).stage = st := by rw [State.slot_relocate, if_pos rfl]; rfl
  have hkeep := hs
  obtain ⟨⟨hv, hv'⟩, ⟨hf, hf'⟩, ⟨hq, hq'⟩, hhead, hhead'⟩ := hs
  have hfreeze : ∀ f ∈ (s.relocate n st).cc.freeze, (s.relocate n st).cc.freezeList.head? = some f.slot := by
    intro f hf
    show (if st = .freezing then s.cc.freezeList ++ [n] else s.cc.freezeList).head? = _
    split
    · exact head?_append_of_some (hhead f hf)
    · exact hhead f hf
  refine ⟨s.roster_relocate n st _ _ hv hv' h.offVerified, s.roster_relocate n st _ _ hf hf' h.offFreezeList, ?_⟩
  have hsw : (s.relocate n st).sw =
      if (s.slot n).stage = .sweeping then s.sw.without n
      else if st = .sweeping then { s.sw with queue := s.sw.queue ++ [n] } else s.sw := rfl
  rw [hsw]
  by_cases hold : (s.slot n).stage = .sweeping
  · rw [if_pos hold]
    have hne : ((s.relocate n st).slot n).stage ≠ .sweeping := by rw [hself, h.sweeping hold]; decide
    obtain ⟨h1, h2, h3⟩ := State.sweepQueue_without n hkeep hne hother
    exact ⟨⟨h1, h2⟩, hfreeze, h3⟩
  · have hnot : n ∉ s.sw.queue := fun hm => hold ((hq' n).mp hm)
    rw [if_neg hold]
    by_cases hst : st = .sweeping
    · rw [if_pos hst]
      refine ⟨⟨?_, fun m => ?_⟩, hfreeze, fun w hw => head?_append_of_some (hhead' w hw)⟩
      · rw [← List.concat_eq_append]; exact hq.concat hnot
      · by_cases hm : m = n
        · subst hm; rw [hself]; simp [hst]
        · rw [hother m hm, ← hq' m]; simp [hm]
    · rw [if_neg hst]
      refine ⟨⟨hq, fun m => ?_⟩, hfreeze, hhead'⟩
      by_cases hm : m = n
      · subst hm; rw [hself]; simp [hst, hnot]
      · rw [hother m hm, hq' m]

theorem Move.keeps_listLaw {s t : State} (h : Move s t) (hs : s.listLaw) : t.listLaw := by
  cases h with
  | books h =>
    exact State.listLaw_of_lists hs h.verified h.freezeList h.freeze h.sw fun m => Or.inl (by rw [h.slot])
  | serve v h => exact State.listLaw_of_lists hs rfl rfl rfl rfl fun m => Or.inl (h m).stage
  | enter n st h => exact State.listLaw_relocate hs h
  | openBehind n p hn hp hsucc hne =>
    have hstage : (s.linkPair n p).slot n = { s.slot n with pred := some p } := by
      rw [State.slot_linkPair _ _ _ _ hne, if_neg hne.symm, if_pos rfl]
    refine State.listLaw_of_lists hs rfl rfl rfl ?_ fun m => ?_
    · show (if ((s.linkPair n p).slot n).stage = .sweeping then _ else _) = s.sw
      rw [hstage, if_neg (by simp [hn])]; rfl
    · rw [State.slot_relocate, State.slot_linkPair _ _ _ _ hne]
      by_cases hm : m = n
      · subst hm; rw [if_pos rfl, hn]; exact Or.inr ⟨rfl, rfl⟩
      · rw [if_neg hm, State.slot_linkPair _ _ _ _ hne]
        by_cases hm' : m = p
        · subst hm'; rw [if_pos rfl]; exact Or.inl rfl
        · rw [if_neg hm', if_neg hm]; exact Or.inl rfl
  | establish n hn =>
    refine State.listLaw_of_lists hs rfl rfl rfl rfl fun m => ?_
    rw [State.slot_establishKey]
    split
    case isTrue hm => subst hm; rw [hn]; exact Or.inr ⟨rfl, rfl⟩
    case isFalse => exact Or.inl rfl
  | empty n hn =>
    refine State.listLaw_of_lists hs rfl rfl rfl rfl fun m => ?_
    rw [State.slot_vacate]
    split
    case isTrue hm => subst hm; rw [hn]; exact Or.inr ⟨rfl, rfl⟩
    case isFalse => exact Or.inl rfl
  | endSweep w hw =>
    have hold := State.stage_of_sweep hs hw
    have hself : ((s.endSweep w.slot).slot w.slot).stage = .vacant := by rw [State.slot_endSweep, if_pos rfl]; rfl
    have hother : ∀ m : Slot, m ≠ w.slot → ((s.endSweep w.slot).slot m).stage = (s.slot m).stage := fun m hm => by
      rw [State.slot_endSweep, if_neg hm]
    obtain ⟨h1, h2, -⟩ := State.sweepQueue_without w.slot hs (by rw [hself]; decide) hother
    obtain ⟨⟨hv, hv'⟩, ⟨hf, hf'⟩, -, hhead, -⟩ := hs
    refine ⟨⟨hv, fun m hm => ?_⟩, ⟨hf, fun m hm => ?_⟩, ⟨h1, h2⟩, hhead, nofun⟩
    · have hne : m ≠ w.slot := fun he => absurd (hold.symm.trans (he ▸ hv' m hm)) (by decide)
      rw [hother m hne, hv' m hm]
    · have hne : m ≠ w.slot := fun he => absurd (hold.symm.trans (he ▸ hf' m hm)) (by decide)
      rw [hother m hne, hf' m hm]
  | endFreeze f crc hf =>
    have hold := State.stage_of_freeze hs hf
    have hself : ((s.endFreeze f.slot crc).slot f.slot).stage = .frozen := by rw [State.slot_endFreeze, if_pos rfl]; rfl
    have hother : ∀ m : Slot, m ≠ f.slot → ((s.endFreeze f.slot crc).slot m).stage = (s.slot m).stage := fun m hm => by
      rw [State.slot_endFreeze, if_neg hm]
    obtain ⟨⟨hv, hv'⟩, ⟨hl, hl'⟩, ⟨hq, hq'⟩, -, hhead⟩ := hs
    refine ⟨⟨hv, fun m hm => ?_⟩, ⟨hl.filter _, fun m hm => ?_⟩, ⟨hq, fun m => ?_⟩, nofun, hhead⟩
    · have hne : m ≠ f.slot := fun he => absurd (hold.symm.trans (he ▸ hv' m hm)) (by decide)
      rw [hother m hne, hv' m hm]
    · obtain ⟨hm, hne⟩ := List.mem_filter.mp hm
      rw [hother m (by simpa using hne), hl' m hm]
    · by_cases hm : m = f.slot
      · subst hm; rw [hself]
        exact ⟨fun hmem => absurd (hold.symm.trans ((hq' _).mp hmem)) (by decide), nofun⟩
      · rw [hother m hm]; exact hq' m
  | releaseKey n =>
    refine State.listLaw_of_lists hs rfl rfl rfl rfl fun m => Or.inl ?_
    rw [State.slot_releaseKey]
    split
    case isTrue hm => subst hm; rfl
    case isFalse => rfl
  | unlink n =>
    rw [State.unlink_eq]
    refine State.listLaw_of_lists hs rfl rfl rfl rfl fun m => Or.inl ?_
    show ((s.unlink n).slot m).stage = _
    rw [State.slot_unlink]
    split
    case isTrue hm => subst hm; rfl
    case isFalse => rfl
  | store n k v =>
    refine State.listLaw_of_lists hs rfl rfl rfl rfl fun m => Or.inl ?_
    rw [State.slot_modSlot]
    split
    case isTrue hm => subst hm; rfl
    case isFalse => rfl
  | custodyReset =>
    refine ⟨⟨List.nodup_nil, nofun⟩, ⟨List.nodup_nil, nofun⟩, ⟨List.nodup_nil, fun n => ?_⟩, nofun, nofun⟩
    rw [State.slot_resetCustody]
    exact ⟨nofun, nofun⟩
  | dropFreeze n =>
    obtain ⟨hv, ⟨hl, hl'⟩, hq, hhead, hhead'⟩ := hs
    refine ⟨hv, ⟨hl.filter _, fun m hm => hl' m (List.mem_of_mem_filter hm)⟩, hq, fun f hf => ?_, hhead'⟩
    simp only [Option.mem_def, Option.ite_none_left_eq_some] at hf
    obtain ⟨hne, hf⟩ := hf
    refine head?_filter_of_ne (hhead f hf) ?_
    simpa [hf] using hne
  | setFreeze f h =>
    obtain ⟨hv, hl, hq, hhead, hhead'⟩ := hs
    refine ⟨hv, hl, hq, fun g hg => ?_, hhead'⟩
    obtain rfl : f = g := Option.some.inj hg
    rcases h with h | ⟨f₀, hf₀, he⟩
    · exact h
    · exact (hhead f₀ hf₀).trans (congrArg some he)
  | setSweep w h =>
    obtain ⟨hv, hl, hq, hhead, hhead'⟩ := hs
    refine ⟨hv, hl, hq, hhead, fun g hg => ?_⟩
    obtain rfl : w = g := Option.some.inj hg
    rcases h with h | ⟨w₀, hw₀, he⟩
    · exact h
    · exact (hhead' w₀ hw₀).trans (congrArg some he)
  | leaveVerified n =>
    obtain ⟨⟨hv, hv'⟩, hl, hq, hhead, hhead'⟩ := hs
    exact ⟨⟨hv.filter _, fun m hm => hv' m (List.mem_of_mem_filter hm)⟩, hl, hq, hhead, hhead'⟩
  | complete e rest =>
    refine State.listLaw_of_lists hs rfl rfl rfl rfl fun m => Or.inl ?_
    rw [State.slot_completeHead]
    split
    case isTrue hm => subst hm; rfl
    case isFalse => rfl
  | _ => exact hs

end Sys2Proof.Machine
end

section
/-! SUPPORT. The moves keep the law of the live links and the law of the key directory (R79, R83). -/

namespace Sys2Proof.Machine

/-! The live links. -/

/-- The slot has a live link. -/
def SlotRec.linked (r : SlotRec) : Prop := r.pred.isSome = true ∨ r.succ.isSome = true

/-- A slot out of service has no links. -/
theorem State.unlinked_of_linkLaw {s : State} (hs : s.linkLaw) {n : Slot} (hn : (s.slot n).inService = false) :
    (s.slot n).pred = none ∧ (s.slot n).succ = none := by
  have hnot : ¬(s.slot n).linked := fun hlinked => by
    have hin : (s.slot n).inService = true := hs.2 n hlinked
    exact absurd (hin.symm.trans hn) (by decide)
  simpa [SlotRec.linked] using hnot

/-- The links where none of them changes and no linked slot leaves service. -/
theorem State.linkLaw_of_links {s t : State} (hs : s.linkLaw)
    (hpred : ∀ m : Slot, (t.slot m).pred = (s.slot m).pred) (hsucc : ∀ m : Slot, (t.slot m).succ = (s.slot m).succ)
    (hin : ∀ m : Slot, (s.slot m).linked → (s.slot m).inService = true → (t.slot m).inService = true) : t.linkLaw := by
  obtain ⟨hpair, hlinkable⟩ := hs
  refine ⟨fun m n => ?_, fun n hn => ?_⟩
  · rw [hpred, hsucc]; exact hpair m n
  · rw [hpred, hsucc] at hn
    exact hin n hn (hlinkable n hn)

/-- The links where one slot's record is replaced by one with the same links. -/
theorem State.linkLaw_of_record {s t : State} (n : Slot) (r : SlotRec) (hs : s.linkLaw)
    (hslot : ∀ m : Slot, t.slot m = if m = n then r else s.slot m)
    (hpred : r.pred = (s.slot n).pred) (hsucc : r.succ = (s.slot n).succ)
    (hin : (s.slot n).linked → (s.slot n).inService = true → r.inService = true) : t.linkLaw := by
  refine State.linkLaw_of_links hs (fun m => ?_) (fun m => ?_) fun m hlinked hm => ?_
  all_goals
    rw [hslot]
    split
  case isTrue h => subst h; exact hpred
  case isFalse => rfl
  case isTrue h => subst h; exact hsucc
  case isFalse => rfl
  case isTrue h => subst h; exact hin hlinked hm
  case isFalse => exact hm

/-- The links where a slot that has none returns to VACANT. -/
theorem State.linkLaw_of_emptied {s t : State} (n : Slot) (hs : s.linkLaw) (hn : (s.slot n).inService = false)
    (hslot : ∀ m : Slot, t.slot m = if m = n then (s.slot n).emptied else s.slot m) : t.linkLaw := by
  obtain ⟨hpred, hsucc⟩ := State.unlinked_of_linkLaw hs hn
  exact State.linkLaw_of_record n _ hs hslot hpred.symm hsucc.symm fun _ hin => absurd (hin.symm.trans hn) (by decide)

theorem SlotRec.Serves.inService {limit : Nat} {r r' : SlotRec} (h : r.Serves limit r') : r'.inService = r.inService := by
  unfold SlotRec.inService
  rw [h.stage, h.heldFrom]

/-- A linked slot that moves stays in service. -/
theorem State.MayEnter.inService {s : State} {n : Slot} {st : Stage} (h : s.MayEnter n st) (hlinked : (s.slot n).linked)
    (hin : (s.slot n).inService = true) (k g : Nat) : ((s.slot n).enter st k g).inService = true := by
  rcases h.links hin with ⟨hloaded, hsweeping⟩ | ⟨hpred, hsucc⟩
  · have hoccupied := h.occupied
    have hheld : st = .held → (s.slot n).stage ≠ .sweeping := by
      rintro - hold
      simp [SlotRec.inService, hold] at hin
    cases st <;> simp_all [SlotRec.inService, SlotRec.enter]
  · simp [SlotRec.linked, hpred, hsucc] at hlinked

/-- The slot's neighbours after it has left its chain, in terms of their own links (R89, R90). -/
theorem State.links_unlink {s : State} (hs : s.linkLaw) (n m : Slot) :
    ((s.unlink n).slot m).succ = (if m = n ∨ (s.slot m).succ = some n then none else (s.slot m).succ) ∧
      ((s.unlink n).slot m).pred = (if m = n ∨ (s.slot m).pred = some n then none else (s.slot m).pred) := by
  obtain ⟨hpair, -⟩ := hs
  rw [State.slot_unlink]
  by_cases hm : m = n
  · simp [hm]
  · have hsucc : (s.slot n).pred = some m ↔ (s.slot m).succ = some n := (hpair m n).symm
    have hpred : (s.slot n).succ = some m ↔ (s.slot m).pred = some n := hpair n m
    rw [if_neg hm]
    unfold State.cutFrom
    simp only [hsucc, hpred, hm, false_or, and_self]

theorem State.linkLaw_unlink {s : State} (hs : s.linkLaw) (n : Slot) : (s.unlink n).linkLaw := by
  have hlinks := State.links_unlink hs n
  have hin : ∀ m : Slot, ((s.unlink n).slot m).inService = (s.slot m).inService := by
    intro m
    rw [State.slot_unlink]
    split
    case isTrue hm => subst hm; rfl
    case isFalse => rfl
  obtain ⟨hpair, hlinkable⟩ := hs
  refine ⟨fun a b => ?_, fun m hm => ?_⟩
  · rw [(hlinks a).1, (hlinks b).2]
    simp only [Option.ite_none_left_eq_some, not_or, hpair a b]
    constructor
    · rintro ⟨⟨ha, hsucc⟩, hb⟩
      rw [(hpair a b).mpr hb] at hsucc
      exact ⟨⟨fun h => hsucc (h ▸ rfl), fun h => ha (Option.some.inj (hb.symm.trans h))⟩, hb⟩
    · rintro ⟨⟨hb', hpred⟩, hb⟩
      rw [hb] at hpred
      exact ⟨⟨fun h => hpred (h ▸ rfl), fun h => hb' (Option.some.inj (((hpair a b).mpr hb).symm.trans h))⟩, hb⟩
  · show SlotRec.inService _ = true
    rw [hin]
    refine hlinkable m (hm.imp (fun h => ?_) fun h => ?_)
    · rw [(hlinks m).2] at h; by_contra hnot; simp_all
    · rw [(hlinks m).1] at h; by_contra hnot; simp_all

/-- The record of every slot once `n`, LOADED, has been linked behind `p` and has moved to SCANNING (R86). -/
theorem State.slot_openBehind (s : State) (n p m : Slot) (hne : p ≠ n) :
    ((s.linkPair n p).relocate n .scanning).slot m =
      if m = n then
        { s.slot n with pred := some p }.enter .scanning (s.queuedOf n) s.su.timing.guardInterval.toNat
      else if m = p then { s.slot p with succ := some n } else s.slot m := by
  rw [State.slot_relocate, State.slot_linkPair _ _ _ _ hne, if_neg hne.symm, if_pos rfl]
  split
  case isTrue => rfl
  case isFalse hm => rw [State.slot_linkPair _ _ _ _ hne, if_neg hm]

theorem State.linkLaw_openBehind {s : State} (hs : s.linkLaw) {n p : Slot} (hn : (s.slot n).stage = .loaded)
    (hp : (s.slot p).inService = true) (hsuccp : (s.slot p).succ = none) (hne : p ≠ n) :
    ((s.linkPair n p).relocate n .scanning).linkLaw := by
  obtain ⟨hpredn, -⟩ := State.unlinked_of_linkLaw hs (n := n) (by simp [SlotRec.inService, hn])
  obtain ⟨hpair, hlinkable⟩ := hs
  have hsucc : ∀ a : Slot, (((s.linkPair n p).relocate n .scanning).slot a).succ =
      if a = p then some n else (s.slot a).succ := by
    intro a
    rw [State.slot_openBehind _ _ _ _ hne]
    by_cases ha : a = n
    · subst ha; rw [if_pos rfl, if_neg hne.symm]; rfl
    · rw [if_neg ha]; split <;> rfl
  have hpred : ∀ b : Slot, (((s.linkPair n p).relocate n .scanning).slot b).pred =
      if b = n then some p else (s.slot b).pred := by
    intro b
    rw [State.slot_openBehind _ _ _ _ hne]
    by_cases hb : b = n
    · rw [if_pos hb, if_pos hb]; rfl
    · rw [if_neg hb, if_neg hb]
      split
      case isTrue hp => subst hp; rfl
      case isFalse => rfl
  refine ⟨fun a b => ?_, fun m hm => ?_⟩
  · rw [hsucc, hpred]
    by_cases ha : a = p <;> by_cases hb : b = n
    · rw [if_pos ha, if_pos hb, ha, hb]; exact ⟨fun _ => rfl, fun _ => rfl⟩
    · rw [if_pos ha, if_neg hb, ha, ← hpair, hsuccp]; simp [Ne.symm hb]
    · rw [if_neg ha, if_pos hb, hb, hpair, hpredn]; simp [Ne.symm ha]
    · rw [if_neg ha, if_neg hb]; exact hpair a b
  · show SlotRec.inService _ = true
    rw [State.slot_openBehind _ _ _ _ hne] at hm ⊢
    by_cases hmn : m = n
    · rw [if_pos hmn]; rfl
    · rw [if_neg hmn] at hm ⊢
      by_cases hmp : m = p
      · rw [if_pos hmp]; exact hp
      · rw [if_neg hmp] at hm ⊢; exact hlinkable m hm

theorem Move.keeps_linkLaw {s t : State} (h : Move s t) (hs : s.linkLaw) (hlist : s.listLaw) : t.linkLaw := by
  cases h with
  | books h => exact State.linkLaw_of_links hs (by simp [h.slot]) (by simp [h.slot]) (by simp [h.slot])
  | serve v h =>
    exact State.linkLaw_of_links hs (fun m => (h m).pred) (fun m => (h m).succ) fun m _ hin => (h m).inService.trans hin
  | enter n st h =>
    exact State.linkLaw_of_record n _ hs (fun m => s.slot_relocate n m st) rfl rfl fun hl hin => h.inService hl hin _ _
  | openBehind n p hn hp hsucc hne => exact State.linkLaw_openBehind hs hn hp hsucc hne
  | establish n => exact State.linkLaw_of_record n _ hs (s.slot_establishKey n) rfl rfl fun _ _ => rfl
  | empty n hn => exact State.linkLaw_of_emptied n hs (by simp [SlotRec.inService, hn]) (s.slot_vacate n)
  | endSweep w hw =>
    have hn := State.stage_of_sweep hlist hw
    exact State.linkLaw_of_emptied w.slot hs (by simp [SlotRec.inService, hn]) (s.slot_endSweep w.slot)
  | endFreeze f crc =>
    exact State.linkLaw_of_record f.slot _ hs (fun m => s.slot_endFreeze f.slot m crc) rfl rfl fun _ _ => rfl
  | releaseKey n => exact State.linkLaw_of_record n _ hs (s.slot_releaseKey n) rfl rfl fun _ h => h
  | unlink n => exact State.linkLaw_unlink hs n
  | store n k v => exact State.linkLaw_of_record n _ hs (fun m => s.slot_modSlot n m _) rfl rfl fun _ h => h
  | custodyReset =>
    refine ⟨fun m n => ?_, fun n hn => ?_⟩
    · rw [State.slot_resetCustody, State.slot_resetCustody]; exact ⟨nofun, nofun⟩
    · rw [State.slot_resetCustody] at hn; exact absurd hn (by simp [SlotRec.custodyReset, SlotRec.reset])
  | complete e rest => exact State.linkLaw_of_record e.slot _ hs (s.slot_completeHead e) rfl rfl fun _ h => h
  | _ => exact hs

/-! The key directory. -/

/-- A slot that may hold no key has none established. -/
theorem State.keyless_of_keyLaw {s : State} (hs : s.keyLaw) {n : Slot} (hn : ¬(s.slot n).mayHoldKey) :
    (s.slot n).keyEst = false := by
  rw [← Bool.not_eq_true]
  exact fun h => hn ((hs.2.2.2 n).2 h)

/-- The directory where it does not change, no slot with an entry changes its key, and no established flag changes. -/
theorem State.keyLaw_of_keys {s t : State} (hs : s.keyLaw) (hdir : t.directory = s.directory)
    (hkey : ∀ m : Slot, (s.slot m).keyEst = true → (t.slot m).key = (s.slot m).key)
    (hest : ∀ m : Slot, (t.slot m).keyEst = (s.slot m).keyEst)
    (hmay : ∀ m : Slot, (s.slot m).keyEst = true → (s.slot m).mayHoldKey → (t.slot m).mayHoldKey) : t.keyLaw := by
  obtain ⟨hslots, hkeys, hentry, hheld⟩ := hs
  unfold State.keyLaw
  rw [hdir]
  refine ⟨hslots, hkeys, fun e he => ?_, fun n => ?_⟩
  · rw [hkey _ ((hheld e.slot).1.mp (List.mem_map_of_mem he))]; exact hentry e he
  · rw [hest]
    exact ⟨(hheld n).1, fun h => hmay n h ((hheld n).2 h)⟩

/-- The directory where one slot's record is replaced. -/
theorem State.keyLaw_of_record {s t : State} (n : Slot) (r : SlotRec) (hs : s.keyLaw)
    (hslot : ∀ m : Slot, t.slot m = if m = n then r else s.slot m) (hdir : t.directory = s.directory)
    (hest : r.keyEst = (s.slot n).keyEst)
    (hmay : (s.slot n).keyEst = true → (s.slot n).mayHoldKey → r.mayHoldKey ∧ r.key = (s.slot n).key) : t.keyLaw := by
  have hheld := hs.2.2.2
  refine State.keyLaw_of_keys hs hdir (fun m h => ?_) (fun m => ?_) fun m h hm => ?_
  all_goals
    rw [hslot]
    split
  case isTrue he => subst he; exact (hmay h ((hheld m).2 h)).2
  case isFalse => rfl
  case isTrue he => subst he; exact hest
  case isFalse => rfl
  case isTrue he => subst he; exact (hmay h hm).1
  case isFalse => exact hm

/-- The directory where a slot that holds no key is given a record without one. -/
theorem State.keyLaw_of_keyless {s t : State} (n : Slot) (r : SlotRec) (hs : s.keyLaw) (hn : ¬(s.slot n).mayHoldKey)
    (hslot : ∀ m : Slot, t.slot m = if m = n then r else s.slot m) (hdir : t.directory = s.directory)
    (hest : r.keyEst = false) : t.keyLaw :=
  State.keyLaw_of_record n r hs hslot hdir (hest.trans (State.keyless_of_keyLaw hs hn).symm) fun _ h => absurd h hn

/-- The directory where slots change their links alone. -/
theorem State.keyLaw_of_relinked {s t : State} (hs : s.keyLaw) (h : s.Relinks t) (hdir : t.directory = s.directory) :
    t.keyLaw := by
  refine State.keyLaw_of_keys hs hdir (fun m _ => ?_) (fun m => ?_) fun m _ hm => ?_
  · obtain ⟨p, q, he⟩ := h m; rw [he]; rfl
  · obtain ⟨p, q, he⟩ := h m; rw [he]
  · obtain ⟨p, q, he⟩ := h m; rw [he]; exact hm

theorem SlotRec.Serves.mayHoldKey {limit : Nat} {r r' : SlotRec} (h : r.Serves limit r') (hr : r.mayHoldKey) :
    r'.mayHoldKey := by
  unfold SlotRec.mayHoldKey
  rw [h.stage, h.heldFrom]
  exact hr

theorem SlotRec.key_congr {r r' : SlotRec} (h : r'.desc = r.desc) : r'.key = r.key := by
  unfold SlotRec.key
  rw [h]

/-- A slot that holds a key and moves may hold it in its new stage. -/
theorem State.MayEnter.mayHoldKey {s : State} {n : Slot} {st : Stage} (h : s.MayEnter n st)
    (hest : (s.slot n).keyEst = true) (hmay : (s.slot n).mayHoldKey) (k g : Nat) :
    ((s.slot n).enter st k g).mayHoldKey := by
  rcases h.key hmay with hkeyed | hheld | hnone
  · exact Or.inl hkeyed
  · subst hheld
    refine Or.inr ⟨rfl, ?_⟩
    rcases hmay with hkeyed | ⟨hstage, -⟩
    · exact hkeyed
    · exact absurd (hstage ▸ h.held rfl) (by decide)
  · exact absurd (hest.symm.trans hnone) (by decide)

theorem State.keyLaw_releaseKey {s : State} (hs : s.keyLaw) (n : Slot) : (s.releaseKey n).keyLaw := by
  obtain ⟨hslots, hkeys, hentry, hheld⟩ := hs
  have hsub : (s.directory.filter fun e => e.slot != n).Sublist s.directory := List.filter_sublist
  refine ⟨hslots.sublist (hsub.map _), hkeys.sublist (hsub.map _), fun e he => ?_, fun m => ?_⟩
  · obtain ⟨he, hne⟩ := List.mem_filter.mp he
    rw [State.slot_releaseKey, if_neg (by simpa using hne)]
    exact hentry e he
  · rw [State.slot_releaseKey]
    by_cases hm : m = n
    · subst hm
      rw [if_pos rfl]
      refine ⟨⟨fun h => ?_, nofun⟩, nofun⟩
      obtain ⟨e, he, rfl⟩ := List.mem_map.mp h
      simpa using (List.mem_filter.mp he).2
    · rw [if_neg hm]
      refine ⟨?_, (hheld m).2⟩
      rw [← (hheld m).1]
      simp only [List.mem_map, State.directory_releaseKey, List.mem_filter]
      constructor
      · rintro ⟨e, ⟨he, -⟩, rfl⟩; exact ⟨e, he, rfl⟩
      · rintro ⟨e, he, rfl⟩; exact ⟨e, ⟨he, by simpa using hm⟩, rfl⟩

theorem State.keyLaw_establishKey {s : State} (hs : s.keyLaw) {n : Slot} (hn : (s.slot n).stage = .decoding)
    (hdup : s.duplicateOf n = none) : (s.establishKey n).keyLaw := by
  have hnone : (s.slot n).keyEst = false :=
    State.keyless_of_keyLaw hs (by simp [SlotRec.mayHoldKey, hn, Stage.keyed])
  obtain ⟨hslots, hkeys, hentry, hheld⟩ := hs
  have hnot : n ∉ s.directory.map KeyEntry.slot := fun h => absurd (hnone.symm.trans ((hheld n).1.mp h)) (by decide)
  have hfresh : (s.slot n).key ∉ s.directory.map KeyEntry.key := by
    intro h
    obtain ⟨e, he, hek⟩ := List.mem_map.mp h
    have hne : e.slot ≠ n := fun h => hnot (h ▸ List.mem_map_of_mem he)
    have := List.find?_eq_none.mp hdup e he
    simp [hne, hek] at this
  have hdir : (s.establishKey n).directory = s.directory ++ [{ slot := n, key := (s.slot n).key }] := rfl
  unfold State.keyLaw
  rw [hdir, List.map_append, List.map_append]
  refine ⟨?_, ?_, fun e he => ?_, fun m => ?_⟩
  · exact List.concat_eq_append ▸ hslots.concat hnot
  · exact List.concat_eq_append ▸ hkeys.concat hfresh
  · rw [State.slot_establishKey]
    rcases List.mem_append.mp he with he | he
    · rw [if_neg fun h : e.slot = n => hnot (h ▸ List.mem_map_of_mem he)]
      exact hentry e he
    · obtain rfl := List.mem_singleton.mp he
      rw [if_pos rfl]; rfl
  · rw [State.slot_establishKey]
    by_cases hm : m = n
    · subst hm
      rw [if_pos rfl]
      exact ⟨⟨fun _ => rfl, fun _ => by simp⟩, fun _ => Or.inl rfl⟩
    · rw [if_neg hm]
      refine ⟨?_, (hheld m).2⟩
      rw [← (hheld m).1]
      simp [hm]

theorem Move.keeps_keyLaw {s t : State} (h : Move s t) (hs : s.keyLaw) (hlist : s.listLaw) : t.keyLaw := by
  cases h with
  | books h =>
    exact State.keyLaw_of_keys hs h.directory (by simp [h.slot]) (by simp [h.slot]) (by simp [h.slot])
  | serve v h =>
    exact State.keyLaw_of_keys hs rfl (fun m _ => SlotRec.key_congr (h m).desc) (fun m => (h m).keyEst)
      fun m _ hm => (h m).mayHoldKey hm
  | enter n st h =>
    exact State.keyLaw_of_record n _ hs (fun m => s.slot_relocate n m st) rfl rfl fun hest hmay =>
      ⟨h.mayHoldKey hest hmay _ _, rfl⟩
  | openBehind n p hn hp hsucc hne =>
    have hpair : (s.linkPair n p).keyLaw := State.keyLaw_of_relinked hs (s.relinks_linkPair n p hne) rfl
    have hloaded : ((s.linkPair n p).slot n).stage = .loaded := by
      rw [State.slot_linkPair _ _ _ _ hne, if_neg hne.symm, if_pos rfl]; exact hn
    refine State.keyLaw_of_keyless n _ hpair (by simp [SlotRec.mayHoldKey, hloaded, Stage.keyed])
      (fun m => State.slot_relocate _ n m .scanning) rfl ?_
    exact State.keyless_of_keyLaw hpair (by simp [SlotRec.mayHoldKey, hloaded, Stage.keyed])
  | establish n hn hdup => exact State.keyLaw_establishKey hs hn hdup
  | empty n hn =>
    exact State.keyLaw_of_keyless n _ hs (by simp [SlotRec.mayHoldKey, hn, Stage.keyed]) (s.slot_vacate n) rfl rfl
  | endSweep w hw =>
    have hn := State.stage_of_sweep hlist hw
    exact State.keyLaw_of_keyless w.slot _ hs (by simp [SlotRec.mayHoldKey, hn, Stage.keyed]) (s.slot_endSweep w.slot) rfl
      rfl
  | endFreeze f crc =>
    exact State.keyLaw_of_record f.slot _ hs (fun m => s.slot_endFreeze f.slot m crc) rfl rfl fun _ _ => ⟨Or.inl rfl, rfl⟩
  | releaseKey n => exact State.keyLaw_releaseKey hs n
  | unlink n => exact State.keyLaw_of_relinked hs (s.relinks_unlink n) (by rw [State.unlink_eq])
  | store n k v hn =>
    exact State.keyLaw_of_record n _ hs (fun m => s.slot_modSlot n m _) rfl rfl fun _ h =>
      absurd h (by simp [SlotRec.mayHoldKey, hn, Stage.keyed])
  | custodyReset =>
    refine ⟨List.nodup_nil, List.nodup_nil, nofun, fun n => ?_⟩
    rw [State.slot_resetCustody]
    exact ⟨⟨nofun, nofun⟩, nofun⟩
  | complete e rest =>
    exact State.keyLaw_of_record e.slot _ hs (s.slot_completeHead e) rfl rfl fun _ h => ⟨h, rfl⟩
  | _ => exact hs

end Sys2Proof.Machine
end

section
/-! SUPPORT. The moves keep the slots' regions apart and within memory, and the operations of the memory within the fitted memory (R4 to R7, R98,
R135). -/

namespace Sys2Proof.Machine

/-! Regions. -/

theorem SlotRec.fieldsInRange_congr {r r' : SlotRec} (h : r'.desc = r.desc) (n : Slot) :
    r'.fieldsInRange n = r.fieldsInRange n := by
  rw [Bool.eq_iff_iff, SlotRec.fieldsInRange_iff, SlotRec.fieldsInRange_iff]
  unfold SlotRec.describes
  rw [h]

theorem SlotRec.shares_congr {r r' q q' : SlotRec} (hr : r'.desc = r.desc) (hq : q'.desc = q.desc) :
    r'.shares q' = r.shares q := by
  unfold SlotRec.shares SlotRec.base SlotRec.limit
  rw [hr, hq]

theorem SlotRec.shares_comm (r q : SlotRec) : r.shares q = q.shares r := by
  unfold SlotRec.shares
  rw [Bool.and_comm]

theorem State.overlaps_eq_false_iff (s : State) (n : Slot) :
    s.overlaps n = false ↔ ∀ m : Slot, m ≠ n → (s.slot m).stage ≠ .vacant → (s.slot n).shares (s.slot m) = false := by
  rw [← Bool.not_eq_true, s.overlaps_iff n]
  simp

/-- The region of a slot, where its descriptor and the fitted memory stay and the other occupied slots are among those of before, or leave the region
free. -/
theorem State.region_of_desc {s t : State} (n : Slot) (hpins : t.pins = s.pins) (hdesc : (t.slot n).desc = (s.slot n).desc)
    (hfields : (s.slot n).fieldsInRange n = true) (hpast : s.pastMemory n = false)
    (hfree : ∀ m : Slot, m ≠ n → (t.slot m).stage ≠ .vacant →
      (t.slot m).desc = (s.slot m).desc ∧ (s.slot n).shares (s.slot m) = false) :
    (t.slot n).fieldsInRange n = true ∧ t.pastMemory n = false ∧ t.overlaps n = false := by
  refine ⟨(SlotRec.fieldsInRange_congr hdesc n).trans hfields, ?_, (t.overlaps_eq_false_iff n).mpr fun m hm hst => ?_⟩
  · unfold State.pastMemory SlotRec.base SlotRec.limit at hpast ⊢
    rw [hpins, hdesc]
    exact hpast
  · obtain ⟨hdescm, hshares⟩ := hfree m hm hst
    rw [SlotRec.shares_congr hdesc hdescm]
    exact hshares

/-- The regions where no slot leaves VACANT and no occupied slot changes its descriptor. -/
theorem State.regionLaw_of_desc {s t : State} (hs : s.regionLaw) (hpins : t.pins = s.pins)
    (hslot : ∀ m : Slot, (t.slot m).stage ≠ .vacant → (s.slot m).stage ≠ .vacant ∧ (t.slot m).desc = (s.slot m).desc) :
    t.regionLaw := by
  intro n hn
  obtain ⟨hold, hdesc⟩ := hslot n hn
  obtain ⟨hfields, hpast, hover⟩ := hs n hold
  refine State.region_of_desc n hpins hdesc hfields hpast fun m hm hst => ?_
  obtain ⟨holdm, hdescm⟩ := hslot m hst
  exact ⟨hdescm, (s.overlaps_eq_false_iff n).mp hover m hm holdm⟩

/-- The regions where the record of an occupied slot is replaced by one with the same descriptor, or that of any slot by one in VACANT. -/
theorem State.regionLaw_of_record {s t : State} (n : Slot) (r : SlotRec) (hs : s.regionLaw)
    (hslot : ∀ m : Slot, t.slot m = if m = n then r else s.slot m) (hpins : t.pins = s.pins)
    (hr : r.stage ≠ .vacant → (s.slot n).stage ≠ .vacant ∧ r.desc = (s.slot n).desc) : t.regionLaw := by
  refine State.regionLaw_of_desc hs hpins fun m hm => ?_
  rw [hslot] at hm ⊢
  split at hm
  case isTrue he => subst he; rw [if_pos rfl]; exact hr hm
  case isFalse he => rw [if_neg he]; exact ⟨hm, rfl⟩

/-- The regions where slots change their links alone. -/
theorem State.regionLaw_of_relinked {s t : State} (hs : s.regionLaw) (h : s.Relinks t) (hpins : t.pins = s.pins) :
    t.regionLaw := by
  refine State.regionLaw_of_desc hs hpins fun m hm => ?_
  obtain ⟨p, q, he⟩ := h m
  rw [he] at hm ⊢
  exact ⟨hm, rfl⟩

/-- A slot that leaves VACANT with a checked region (R178). -/
theorem State.regionLaw_of_load {s : State} (hs : s.regionLaw) {n : Slot} {st : Stage}
    (hfields : (s.slot n).fieldsInRange n = true) (hpast : s.pastMemory n = false) (hover : s.overlaps n = false) :
    (s.relocate n st).regionLaw := by
  have hdesc : ∀ m : Slot, ((s.relocate n st).slot m).desc = (s.slot m).desc := by
    intro m
    rw [State.slot_relocate]
    split
    case isTrue hm => subst hm; rfl
    case isFalse => rfl
  have hother : ∀ m : Slot, m ≠ n → ((s.relocate n st).slot m).stage = (s.slot m).stage := fun m hm => by
    rw [State.slot_relocate, if_neg hm]
  have hfree := (s.overlaps_eq_false_iff n).mp hover
  intro k hk
  by_cases hkn : k = n
  · subst hkn
    refine State.region_of_desc (s := s) k rfl (hdesc k) hfields hpast fun m hm hst => ⟨hdesc m, ?_⟩
    exact hfree m hm (hother m hm ▸ hst)
  · rw [hother k hkn] at hk
    obtain ⟨hfieldsk, hpastk, hoverk⟩ := hs k hk
    refine State.region_of_desc (s := s) k rfl (hdesc k) hfieldsk hpastk fun m hm hst => ⟨hdesc m, ?_⟩
    by_cases hmn : m = n
    · subst hmn
      rw [SlotRec.shares_comm]
      exact hfree k hkn hk
    · exact (s.overlaps_eq_false_iff k).mp hoverk m hm (hother m hmn ▸ hst)

theorem Move.keeps_regionLaw {s t : State} (h : Move s t) (hs : s.regionLaw) (hlist : s.listLaw) : t.regionLaw := by
  cases h with
  | books h => exact State.regionLaw_of_desc hs h.pins fun m hm => by rw [h.slot] at hm ⊢; exact ⟨hm, rfl⟩
  | serve v h => exact State.regionLaw_of_desc hs rfl fun m hm => ⟨(h m).stage ▸ hm, (h m).desc⟩
  | enter n st h =>
    rcases h.region with hst | ⟨hfields, hpast, hover⟩
    · exact State.regionLaw_of_record n _ hs (fun m => s.slot_relocate n m st) rfl fun _ => ⟨hst, rfl⟩
    · exact State.regionLaw_of_load hs hfields hpast hover
  | openBehind n p hn hp hsucc hne =>
    have hpair : (s.linkPair n p).regionLaw := State.regionLaw_of_relinked hs (s.relinks_linkPair n p hne) rfl
    have hloaded : ((s.linkPair n p).slot n).stage = .loaded := by
      rw [State.slot_linkPair _ _ _ _ hne, if_neg hne.symm, if_pos rfl]; exact hn
    exact State.regionLaw_of_record n _ hpair (fun m => State.slot_relocate _ n m .scanning) rfl fun _ =>
      ⟨by rw [hloaded]; decide, rfl⟩
  | establish n hn =>
    exact State.regionLaw_of_record n _ hs (s.slot_establishKey n) rfl fun _ => ⟨by rw [hn]; decide, rfl⟩
  | empty n => exact State.regionLaw_of_record n _ hs (s.slot_vacate n) rfl fun h => absurd rfl h
  | endSweep w => exact State.regionLaw_of_record w.slot _ hs (s.slot_endSweep w.slot) rfl fun h => absurd rfl h
  | endFreeze f crc hf =>
    have hn := State.stage_of_freeze hlist hf
    exact State.regionLaw_of_record f.slot _ hs (fun m => s.slot_endFreeze f.slot m crc) rfl fun _ =>
      ⟨by rw [hn]; decide, rfl⟩
  | releaseKey n => exact State.regionLaw_of_record n _ hs (s.slot_releaseKey n) rfl fun h => ⟨h, rfl⟩
  | unlink n => exact State.regionLaw_of_relinked hs (s.relinks_unlink n) (by rw [State.unlink_eq])
  | store n k v hn =>
    exact State.regionLaw_of_record n _ hs (fun m => s.slot_modSlot n m _) rfl fun h => absurd hn h
  | custodyReset =>
    intro n hn
    rw [State.slot_resetCustody] at hn
    exact absurd rfl hn
  | complete e rest => exact State.regionLaw_of_record e.slot _ hs (s.slot_completeHead e) rfl fun h => ⟨h, rfl⟩
  | _ => exact hs

/-! Operations of the memory. -/

/-- The bytes of an occupied slot's region lie in memory (R5, R7). -/
theorem State.inMemory_of_region {s : State} (hs : s.regionLaw) {n : Slot} (hn : (s.slot n).stage ≠ .vacant) {pa size : Nat}
    (h : pa + size ≤ ((s.slot n).base + (s.slot n).limit) * 4096) : s.inMemory pa size = true := by
  obtain ⟨-, hpast, -⟩ := hs n hn
  rw [State.pastMemory, decide_eq_false_iff_not, not_lt] at hpast
  rw [State.inMemory, decide_eq_true_eq]
  exact h.trans (Nat.mul_le_mul_right 4096 hpast)

/-- An occupied slot has a region of two granules or more (R4). -/
theorem State.two_le_limit {s : State} (hs : s.regionLaw) {n : Slot} (hn : (s.slot n).stage ≠ .vacant) :
    2 ≤ (s.slot n).limit := by
  obtain ⟨hfields, -, -⟩ := hs n hn
  obtain ⟨-, ⟨hlimit, -⟩, -⟩ := ((s.slot n).fieldsInRange_iff n).mp hfields
  exact hlimit

/-- The bytes of the operation in flight lie within the fitted memory. -/
def State.opInMemory (s : State) : Option MemOp → Prop
  | some (.freezeRead _ k pa _) => s.inMemory pa (freezeReadSize k) = true
  | some (.sweepBurst _ _ pa _) => s.inMemory pa 64 = true
  | some .queueHead => s.mp.queue ≠ []
  | none => True

theorem State.operationLaw_iff (s : State) :
    s.operationLaw ↔
      (∀ e ∈ s.mp.queue, s.inMemory e.pa e.size = true ∧ (e.wr = true → e.data.length = e.size)) ∧
        s.opInMemory s.mp.op := by
  unfold State.operationLaw State.opInMemory
  rcases s.mp.op with _ | _ | _ | _ <;> rfl

/-- The operations where the memory port's queue and operation and the straps stay. -/
theorem State.operationLaw_of_port {s t : State} (hs : s.operationLaw) (hqueue : t.mp.queue = s.mp.queue)
    (hop : t.mp.op = s.mp.op) (hpins : t.pins = s.pins) : t.operationLaw := by
  unfold State.operationLaw State.inMemory at hs ⊢
  rw [hqueue, hop, hpins]
  exact hs

/-- An abandoned operation is performed all the same (R101, R138). -/
theorem State.opInMemory_abandon {s : State} {o : Option MemOp} (h : s.opInMemory o) :
    s.opInMemory (o.map MemOp.abandonFreeze) ∧ s.opInMemory (o.map MemOp.abandonSweep) := by
  rcases o with _ | _ | _ | _ <;> exact ⟨h, h⟩

theorem freezeReadOffset_add_size_le (k : Nat) : freezeReadOffset k + freezeReadSize k ≤ 4096 := by
  unfold freezeReadOffset freezeReadSize
  split <;> split <;> omega

/-- A granted operation lies within the fitted memory. -/
theorem State.opInMemory_of_performs {s : State} (hs : s.operationLaw) (hregion : s.regionLaw) (hlist : s.listLaw)
    {op : Option MemOp} (h : s.Performs op) : s.opInMemory op := by
  rw [State.operationLaw_iff] at hs
  obtain ⟨-, hop⟩ := hs
  rcases op with _ | _ | ⟨m, k, pa, b⟩ | ⟨m, k, pa, b⟩
  · trivial
  · rcases h with he | hne
    · rw [he] at hop; exact hop
    · exact hne
  · rcases h with ⟨m', b', he⟩ | ⟨f, hf, hpa⟩
    · rw [he] at hop; exact hop
    · have hst : (s.slot f.slot).stage ≠ .vacant := by rw [State.stage_of_freeze hlist hf]; decide
      have hlimit := State.two_le_limit hregion hst
      have hsize := freezeReadOffset_add_size_le k
      exact State.inMemory_of_region hregion hst (by omega)
  · rcases h with ⟨m', j', b', he⟩ | ⟨w, hw, hdone, hpa⟩
    · rw [he] at hop; exact hop
    · have hst : (s.slot w.slot).stage ≠ .vacant := by rw [State.stage_of_sweep hlist hw]; decide
      exact State.inMemory_of_region hregion hst (by omega)

theorem Move.keeps_operationLaw {s t : State} (h : Move s t) (hs : s.operationLaw) (hregion : s.regionLaw)
    (hlist : s.listLaw) : t.operationLaw := by
  cases h with
  | books h => exact State.operationLaw_of_port hs h.queue h.op h.pins
  | unlink n => rw [State.unlink_eq]; exact hs
  | custodyReset =>
    rw [State.operationLaw_iff] at hs ⊢
    obtain ⟨hqueue, hop⟩ := hs
    refine ⟨hqueue, ?_⟩
    have hboth := (State.opInMemory_abandon (State.opInMemory_abandon hop).1).2
    rw [Option.map_map] at hboth
    exact hboth
  | push e hroom hst hin hdata =>
    rw [State.operationLaw_iff] at hs ⊢
    obtain ⟨hqueue, hop⟩ := hs
    refine ⟨fun x hx => ?_, ?_⟩
    · rcases List.mem_append.mp hx with hx | hx
      · exact hqueue x hx
      · obtain rfl := List.mem_singleton.mp hx
        have hlimit := State.two_le_limit hregion hst
        rw [Nat.max_eq_right (Nat.one_le_of_lt hlimit)] at hin
        exact ⟨State.inMemory_of_region hregion hst hin, hdata⟩
    · show State.opInMemory _ s.mp.op
      rcases ho : s.mp.op with _ | _ | _ | _
      all_goals rw [ho] at hop
      · trivial
      · exact List.append_ne_nil_of_right_ne_nil _ (List.cons_ne_nil _ _)
      · exact hop
      · exact hop
  | complete e rest hq =>
    rw [State.operationLaw_iff] at hs ⊢
    obtain ⟨hqueue, -⟩ := hs
    refine ⟨fun x hx => hqueue x ?_, trivial⟩
    exact List.mem_of_mem_tail hx
  | perform op wait hop =>
    have hin := State.opInMemory_of_performs hs hregion hlist hop
    rw [State.operationLaw_iff] at hs ⊢
    exact ⟨hs.1, by rcases op with _ | _ | _ | _ <;> exact hin⟩
  | _ => exact hs

end Sys2Proof.Machine
end

section
/-! SUPPORT. The form of an access, its deciding step, and what has been checked of an access that step 14 decides (R1, R8, R20, R22, R31). -/

namespace Sys2Proof

/-! The form of an access (R1, R20). -/

theorem Access.sizeCode_le (a : Access) (h : a.noSize = false) : a.sizeCode.toNat ≤ 6 := by
  have hne : a.sizeCode ≠ 7#3 := by simpa [Access.noSize] using h
  have hlt := a.sizeCode.isLt
  have : a.sizeCode.toNat ≠ 7 := fun e => hne (BitVec.eq_of_toNat_eq e)
  omega

/-- The window, the offset within it, and the alignment of an access with a size. -/
theorem Access.window (a : Access) (h : a.noSize = false) :
    a.slot.val = a.addr.toNat / 2 ^ 18 ∧
      a.offset = a.addr.toNat % 2 ^ 18 - a.addr.toNat % 2 ^ a.sizeCode.toNat ∧
      a.offset + a.size ≤ 2 ^ 18 ∧ a.size ∣ a.offset := by
  have hcode := a.sizeCode_le h
  have haddr := a.addr.isLt
  simp only [Access.slot, Access.offset, Access.aligned, Access.size, Config.windowSize, Fin.ofNat]
  generalize a.addr.toNat = x at haddr ⊢
  generalize a.sizeCode.toNat = n at hcode ⊢
  interval_cases n <;> omega

theorem Access.size_pos (a : Access) : 0 < a.size := Nat.two_pow_pos _

/-- An access is as large as 64 bytes at most. -/
theorem Access.size_le (a : Access) (h : a.noSize = false) : a.size ≤ 64 :=
  (Nat.pow_le_pow_right Nat.two_pos (a.sizeCode_le h)).trans (by decide)

theorem Access.size_dvd_offset (a : Access) (h : a.noSize = false) : a.size ∣ a.offset := by
  obtain ⟨-, -, -, hdvd⟩ := a.window h
  exact hdvd

/-- An access that starts within a run of blocks of 4096 bytes ends within it. -/
theorem Access.end_le (a : Access) (h : a.noSize = false) {k : Nat} (hk : a.offset < k * 4096) :
    a.offset + a.size ≤ k * 4096 := by
  obtain ⟨q, hq⟩ := a.size_dvd_offset h
  have hcode := a.sizeCode_le h
  have hsize : a.size ∣ k * 4096 := (pow_dvd_pow 2 (hcode.trans (by decide : 6 ≤ 12))).trans (Dvd.intro_left k rfl)
  obtain ⟨p, hp⟩ := hsize
  rw [hq, hp] at hk
  have hlt : q < p := Nat.lt_of_mul_lt_mul_left hk
  rw [hq, hp, ← Nat.mul_succ]
  exact Nat.mul_le_mul_left _ hlt

end Sys2Proof

namespace Sys2Proof.Machine

/-! The deciding step (R22). -/

theorem State.decidingStep_eq_find (s : State) (a : Access) :
    s.decidingStep a = ((List.range' 1 13).find? fun k => s.stepHolds a k).getD 14 := rfl

theorem State.decidingStep_eq_14_iff (s : State) (a : Access) :
    s.decidingStep a = 14 ↔ ∀ k ∈ Finset.Icc 1 13, ¬s.condition a k := by
  rw [State.decidingStep_eq_find]
  constructor
  · intro h k hk hc
    rcases hf : (List.range' 1 13).find? fun k => s.stepHolds a k with _ | j
    · refine List.find?_eq_none.mp hf k ?_ ((s.stepHolds_iff a k hk).mpr hc)
      obtain ⟨h1, h2⟩ := Finset.mem_Icc.mp hk
      exact List.mem_range'_1.mpr ⟨h1, by omega⟩
    · rw [hf] at h
      have hj := List.mem_range'_1.mp (List.mem_of_find?_eq_some hf)
      have : j = 14 := h
      omega
  · intro h
    have hnone : (List.range' 1 13).find? (fun k => s.stepHolds a k) = none := by
      refine List.find?_eq_none.mpr fun k hk => ?_
      obtain ⟨h1, h2⟩ := List.mem_range'_1.mp hk
      have hIcc : k ∈ Finset.Icc 1 13 := Finset.mem_Icc.mpr ⟨h1, by omega⟩
      rw [s.stepHolds_iff a k hIcc]
      exact h k hIcc
    rw [hnone]; rfl

theorem State.decidingStep_eq_iff (s : State) (a : Access) (k : Nat) (hk : k ∈ Finset.Icc 1 13) :
    s.decidingStep a = k ↔ s.condition a k ∧ ∀ j ∈ Finset.Icc 1 13, j < k → ¬s.condition a j := by
  obtain ⟨h1, h2⟩ := Finset.mem_Icc.mp hk
  have hfind : s.decidingStep a = k ↔ (List.range' 1 13).find? (fun k => s.stepHolds a k) = some k := by
    rw [State.decidingStep_eq_find]
    rcases (List.range' 1 13).find? fun k => s.stepHolds a k with _ | j
    · simp; omega
    · simp
  rw [hfind, List.find?_range'_eq_some, s.stepHolds_iff a k hk]
  simp only [List.mem_range'_1, Bool.not_eq_true']
  constructor
  · rintro ⟨hc, -, hj⟩
    refine ⟨hc, fun j hjk hlt => ?_⟩
    rw [← s.stepHolds_iff a j hjk, hj j (Finset.mem_Icc.mp hjk).1 hlt]
    decide
  · rintro ⟨hc, hj⟩
    refine ⟨hc, by omega, fun j hj1 hlt => ?_⟩
    have hjk : j ∈ Finset.Icc 1 13 := Finset.mem_Icc.mpr ⟨hj1, by omega⟩
    rw [← Bool.not_eq_true, s.stepHolds_iff a j hjk]
    exact hj j hjk hlt

/-- The step that decides an access is one of the fourteen. -/
theorem State.decidingStep_mem (s : State) (a : Access) : s.decidingStep a ∈ Finset.Icc 1 14 := by
  rw [State.decidingStep_eq_find]
  rcases hf : (List.range' 1 13).find? fun k => s.stepHolds a k with _ | j
  · decide
  · have hj := List.mem_range'_1.mp (List.mem_of_find?_eq_some hf)
    exact Finset.mem_Icc.mpr ⟨hj.1, by simp; omega⟩

/-- The condition of the step that decides an access, if it is not the last. -/
theorem State.condition_of_step {s : State} {a : Access} {k : Nat} (h : s.decidingStep a = k) (hk : k ∈ Finset.Icc 1 13) :
    s.condition a k :=
  ((s.decidingStep_eq_iff a k hk).mp h).1

/-- No step before the deciding one has its condition. -/
theorem State.not_condition_of_lt {s : State} {a : Access} {k : Nat} (j : Nat) (h : s.decidingStep a = k) (hj : 1 ≤ j)
    (hlt : j < k) : ¬s.condition a j := by
  have hk := s.decidingStep_mem a
  rw [h, Finset.mem_Icc] at hk
  rcases Nat.lt_or_ge k 14 with h14 | h14
  · exact ((s.decidingStep_eq_iff a k (Finset.mem_Icc.mpr ⟨hk.1, by omega⟩)).mp h).2 j
      (Finset.mem_Icc.mpr ⟨hj, by omega⟩) hlt
  · obtain rfl : k = 14 := by omega
    exact (s.decidingStep_eq_14_iff a).mp h j (Finset.mem_Icc.mpr ⟨hj, by omega⟩)

/-! Areas and rights (R8, R31). -/

theorem areaOf_iff (x : Nat) :
    (areaOf x = .status ↔ x ≤ 0x00F) ∧ (areaOf x = .notes ↔ 0x010 ≤ x ∧ x ≤ 0x03F ∨ 0x210 ≤ x ∧ x ≤ 0xFFF) ∧
      (areaOf x = .index ↔ 0x040 ≤ x ∧ x ≤ 0x07F) ∧ (areaOf x = .card ↔ 0x080 ≤ x ∧ x ≤ 0x11F) ∧
      (areaOf x = .print ↔ 0x120 ≤ x ∧ x ≤ 0x16F) ∧ (areaOf x = .readback ↔ 0x170 ≤ x ∧ x ≤ 0x20F) ∧
      (areaOf x = .frame ↔ 0x1000 ≤ x) := by
  unfold areaOf
  split_ifs <;> simp <;> omega

theorem Stage.hasRights_iff (st : Stage) :
    st.hasRights = true ↔ st ∈ [Stage.loaded, .scanning, .decoding, .composing, .frozen, .verified, .held] := by
  cases st <;> decide

theorem hasRight_iff (role : Role) (st : Stage) (wr : Bool) (area : Area) :
    hasRight role st wr area = true ↔
      role = .controller ∧ st ∈ [Stage.loaded, .scanning, .decoding, .composing, .frozen, .verified, .held] ∧
          (wr = false ∧ area ≠ .status ∨ wr = true ∧ area = .notes) ∨
        role = .controller ∧ st = .composing ∧ wr = true ∧ (area = .card ∨ area = .print) ∨
        role = .scanner ∧ st = .scanning ∧ wr = true ∧ area = .frame ∨
        role = .decoder ∧ st = .decoding ∧ (wr = false ∧ area = .frame ∨ wr = true ∧ area = .index) ∨
        role = .punch ∧ st = .frozen ∧ wr = false ∧ area = .card ∨
        role = .printer ∧ st = .frozen ∧ wr = false ∧ area = .print ∨
        role = .verifier ∧ st = .frozen ∧ (wr = false ∧ area = .frame ∨ wr = true ∧ area = .readback) := by
  cases role <;> cases wr <;> cases area <;> simp [hasRight, Stage.hasRights_iff]

/-- Settles O5: the window's arithmetic by size, the first condition by the search for it, the two tables cell by cell. -/
theorem accessesAreDecidedInOrder : Obligations.AccessesAreDecidedInOrder :=
  ⟨fun a h => a.window h, fun s a => ⟨s.decidingStep_eq_14_iff a, s.decidingStep_eq_iff a⟩, areaOf_iff, hasRight_iff,
    rfl, rfl, rfl, rfl⟩

/-! What has been checked of an access that step 14 decides. -/

/-- A slot in which some role has some right has a row of rights. -/
theorem hasRights_of_hasRight {role : Role} {st : Stage} {wr : Bool} {area : Area} (h : hasRight role st wr area = true) :
    st.hasRights = true := by
  rw [Stage.hasRights_iff]
  rcases (hasRight_iff role st wr area).mp h with ⟨-, hst, -⟩ | h | h | h | h | h | h
  case inl => exact hst
  all_goals
    obtain ⟨-, rfl, -⟩ := h
    decide

theorem State.hasRight_of_accepted {s : State} {a : Access} (h : s.decidingStep a = 14) {k : Nat} (hk : k < a.size) :
    hasRight (s.role a.tag) (s.slot a.slot).stage a.wr (areaOf (a.offset + k)) = true := by
  by_contra hnot
  exact s.not_condition_of_lt 9 h (by decide) (by decide) ⟨k, hk, by simpa using hnot⟩

theorem State.occupied_of_accepted {s : State} {a : Access} {k : Nat} (h : s.decidingStep a = k) (hk : 4 < k) :
    (s.slot a.slot).stage ≠ .vacant :=
  s.not_condition_of_lt 4 h (by decide) hk

theorem State.inRegion_of_accepted {s : State} {a : Access} (h : s.decidingStep a = 14) (hn : a.noSize = false) :
    a.offset + a.size ≤ (s.slot a.slot).limit * 4096 :=
  a.end_le hn (Nat.lt_of_not_le (s.not_condition_of_lt 5 h (by decide) (by decide)))

theorem State.room_of_accepted {s : State} {a : Access} (h : s.decidingStep a = 14) : s.mp.queue.length < 16 :=
  Nat.lt_of_not_le (s.not_condition_of_lt 13 h (by decide) (by decide))

/-- The slot of a DECODER access that step 14 decides is in DECODING. -/
theorem State.decoding_of_accepted {s : State} {a : Access} (h : s.decidingStep a = 14)
    (hrole : s.role a.tag = .decoder) : (s.slot a.slot).stage = .decoding := by
  have hright := s.hasRight_of_accepted h a.size_pos
  rw [hasRight_iff, hrole] at hright
  simp only [reduceCtorEq, false_and, true_and, false_or, or_false] at hright
  exact hright.1

/-- A VERIFIER write that step 14 decides lies in READBACK of a FROZEN slot. -/
theorem State.readback_of_accepted {s : State} {a : Access} (h : s.decidingStep a = 14) (hwr : a.wr = true)
    (hrole : s.role a.tag = .verifier) :
    (s.slot a.slot).stage = .frozen ∧ 0x170 ≤ a.offset ∧ a.offset + a.size ≤ 0x210 := by
  have hright : ∀ k < a.size, (s.slot a.slot).stage = .frozen ∧ areaOf (a.offset + k) = .readback := by
    intro k hk
    have hright := s.hasRight_of_accepted h hk
    rw [hasRight_iff, hrole, hwr] at hright
    simpa using hright
  have hpos := a.size_pos
  obtain ⟨hstage, hfirst⟩ := hright 0 hpos
  obtain ⟨-, hlast⟩ := hright (a.size - 1) (by omega)
  have h0 := (areaOf_iff (a.offset + 0)).2.2.2.2.2.1.mp hfirst
  have h1 := (areaOf_iff (a.offset + (a.size - 1))).2.2.2.2.2.1.mp hlast
  exact ⟨hstage, h0.1, by omega⟩

/-- A VERIFIER write to READBACK that step 14 decides starts at the read-back pointer, no wait standing against it (R36). -/
theorem State.inSequence_of_accepted {s : State} {a : Access} (h : s.decidingStep a = 14) (hwr : a.wr = true)
    (hrole : s.role a.tag = .verifier) (htouch : a.touches .readback) :
    (s.slot a.slot).punch = true ∧ (s.slot a.slot).print = true ∧ (s.slot a.slot).retryTimer = none ∧
      a.offset = (s.slot a.slot).rbPtr := by
  have hnot : ¬((s.slot a.slot).punch = false ∨ (s.slot a.slot).print = false ∨ (s.slot a.slot).retryTimer ≠ none ∨
      a.offset ≠ (s.slot a.slot).rbPtr) := fun hbad =>
    s.not_condition_of_lt 12 h (by decide) (by decide) (Or.inr ⟨hrole, hwr, htouch, hbad⟩)
  simpa [not_or] using hnot

end Sys2Proof.Machine
end

section
/-! SUPPORT. Every step is a path of moves: one lemma for each operation that the commands share, then the commands. -/

namespace Sys2Proof.Machine

/-! Changes that no law reads. -/

theorem SameBooks.of_mi (s : State) (m : Management) : SameBooks s { s with mi := m } := by constructor <;> rfl
theorem SameBooks.quiet (s : State) : SameBooks s s.quiet := by constructor <;> rfl
theorem SameBooks.answer (s : State) (r : BusResponse) (d : List Byte) : SameBooks s (s.answer r d) := by
  constructor <;> rfl
theorem SameBooks.answerQueued (s : State) (r : BusResponse) (t : Tag) (d : List Byte) :
    SameBooks s (s.answerQueued r t d) := by constructor <;> rfl
theorem SameBooks.report (s : State) (r : Report) : SameBooks s (s.report r) := by constructor <;> rfl
theorem SameBooks.latch (s : State) (c : Cause) : SameBooks s (s.latch c) := by constructor <;> rfl
theorem SameBooks.arbitrate (s : State) : SameBooks s s.arbitrate := by constructor <;> rfl
theorem SameBooks.setStatus (s : State) (st : PortalStatus) : SameBooks s (s.setStatus st) := by constructor <;> rfl
theorem SameBooks.takenWrite (s : State) : SameBooks s s.takenWrite := s.takenWrite_eq ▸ .of_mi s _
theorem SameBooks.completedRead (s : State) (st : PortalStatus) : SameBooks s (s.completedRead st) :=
  s.completedRead_eq st ▸ .of_mi s _

theorem SameBooks.latchIf (s : State) (p : Bool) (c : Cause) : SameBooks s (s.latchIf p c) := by
  cases p
  · exact .refl s
  · exact .latch s c

theorem SameBooks.trans {s t u : State} (h : SameBooks s t) (h' : SameBooks t u) : SameBooks s u where
  slots := h'.slots.trans h.slots
  locks := h'.locks.trans h.locks
  verified := h'.verified.trans h.verified
  timing := h'.timing.trans h.timing
  directory := h'.directory.trans h.directory
  freezeList := h'.freezeList.trans h.freezeList
  freeze := h'.freeze.trans h.freeze
  queue := h'.queue.trans h.queue
  op := h'.op.trans h.op
  sweepWait := h'.sweepWait.trans h.sweepWait
  sw := h'.sw.trans h.sw
  log := h'.log.trans h.log
  nextSeq := h'.nextSeq.trans h.nextSeq
  overflow := h'.overflow.trans h.overflow
  pins := h'.pins.trans h.pins
  mem := h'.mem.trans h.mem

theorem SameBooks.path {s t : State} (h : SameBooks s t) : Path s t := Move.path (.books h)

theorem SameBooks.latchFor (s : State) (v : Verdict) (k : FaultKind) (full guarding : Bool) :
    SameBooks s (s.latchFor v k full guarding) := by
  unfold State.latchFor
  exact ((((SameBooks.latchIf s _ _).trans (.latchIf _ _ _)).trans (.latchIf _ _ _)).trans (.latchIf _ _ _)).trans
    (.latchIf _ _ _)

theorem SameBooks.blockIf (s : State) (b : Bool) : SameBooks s (s.blockIf b) := by
  cases b
  · exact .refl s
  · constructor <;> rfl

/-! Slots. -/

/-- One slot is served. -/
theorem Path.modSlot (s : State) (n : Slot) (f : SlotRec → SlotRec)
    (h : (s.slot n).Serves s.su.timing.retryLimit.toNat (f (s.slot n))) : Path s (s.modSlot n f) := by
  refine Move.path (.serve _ fun m => ?_)
  have hslot : (s.modSlot n f).slot m = if m = n then f (s.slot n) else s.slot m := s.slot_modSlot n m f
  show (s.slot m).Serves _ ((s.modSlot n f).slot m)
  rw [hslot]
  split
  case isTrue hm => subst hm; exact h
  case isFalse => exact .refl _ _

/-- Every slot is served. -/
theorem Path.mapSlots (s : State) (f : SlotRec → SlotRec)
    (h : ∀ r : SlotRec, r.Serves s.su.timing.retryLimit.toNat (f r)) :
    Path s { s with slots := mapVector f s.slots } := by
  refine Move.path (.serve _ fun m => ?_)
  rw [mapVector_get]
  exact h _

/-- A slot moves, and what no law reads changes beside. -/
theorem Path.enter {s t : State} {n : Slot} {st : Stage} (h : s.MayEnter n st) (ht : SameBooks (s.relocate n st) t) :
    Path s t :=
  (Move.path (.enter n st h)).books ht

/-- A slot that stands in no list moves to a stage whose slots stand in none. -/
theorem Path.changeStage {s : State} {n : Slot} {st : Stage} (h : s.MayEnter n st)
    (hold : (s.slot n).stage ≠ .sweeping) (hst : st.listed = false) : Path s (s.changeStage n st) := by
  have h1 : st ≠ .verified := by rintro rfl; exact absurd hst (by decide)
  have h2 : st ≠ .freezing := by rintro rfl; exact absurd hst (by decide)
  have h3 : st ≠ .sweeping := by rintro rfl; exact absurd hst (by decide)
  refine Path.enter h ?_
  constructor <;> simp [State.relocate, h1, h2, h3, hold]

/-! Locks (R120, R123). -/

theorem Path.filterLocks (s : State) (p : Lock → Bool) :
    Path s { s with acc := { s.acc with locks := s.acc.locks.filter p } } :=
  Move.path (.locks _ (List.filter_sublist.map _) (List.filter_sublist.map _))

theorem Path.endLock (s : State) (c : Bool) (n : Slot) (t : Tag) : Path s (s.endLock c n t) := by
  unfold State.endLock
  split
  · exact .filterLocks s _
  · exact .refl s

theorem Path.deny (s : State) (a : Access) : Path s (s.deny a) :=
  (SameBooks.answer s _ _).path.trans (.endLock _ _ _ _)

/-! The freeze order list, the verified queue and the sweep queue (R54, R97, R98, R101, R134, R138). -/

theorem Path.takeUpFreeze (s : State) : Path s s.takeUpFreeze := by
  unfold State.takeUpFreeze
  split
  case h_1 n l hf hl =>
    split
    · exact .refl s
    · exact Move.path (.setFreeze _ (Or.inl (by rw [hl]; rfl)))
  case h_2 => exact .refl s

/-- What memory performs goes on, abandoned or not. -/
theorem State.performs_abandon (s : State) (f : MemOp → MemOp) (hf : f = MemOp.abandonFreeze ∨ f = MemOp.abandonSweep) :
    s.Performs (s.mp.op.map f) := by
  rcases ho : s.mp.op with _ | _ | _ | _
  case none => trivial
  all_goals
    rcases hf with rfl | rfl
    all_goals simp [State.Performs, MemOp.abandonFreeze, MemOp.abandonSweep, ho]

theorem Path.setOp (s : State) (op : Option MemOp) (h : s.Performs op) : Path s { s with mp := { s.mp with op := op } } :=
  Move.path (.perform op s.mp.sweepWait h (Or.inl rfl))

theorem Path.freeMemory (s : State) : Path s s.freeMemory := .setOp s none trivial

theorem Path.abandonFreeze (s : State) (n : Slot) : Path s (s.abandonFreeze n) := by
  have hdrop := Move.path (Move.dropFreeze (s := s) n)
  unfold State.abandonFreeze
  split
  case isTrue h =>
    rw [if_pos h] at hdrop
    exact (hdrop.trans (.setOp _ _ (State.performs_abandon _ _ (Or.inl rfl)))).trans (.takeUpFreeze _)
  case isFalse h =>
    rw [if_neg h] at hdrop
    exact hdrop.trans (.takeUpFreeze _)

theorem Path.raiseOrphan (after s : State) (n : Slot) (t : Tag) : Path after (after.raiseOrphan s n t) := by
  unfold State.raiseOrphan
  split
  · exact (SameBooks.report _ _).path
  · exact .refl _

/-! The hold (R54). -/

/-- A slot in a holdable stage may be held once it is off the lists and its retry timer stands. -/
theorem State.mayEnter_held {s : State} {n : Slot} (hst : (s.slot n).stage.holdable = true)
    (hretry : (s.slot n).stage = .frozen → (s.slot n).retryTimer = none)
    (hverified : (s.slot n).stage = .verified → n ∉ s.su.verified)
    (hfreeze : (s.slot n).stage = .freezing → n ∉ s.cc.freezeList) : s.MayEnter n .held where
  occupied := nofun
  held _ := hst
  verified := nofun
  retry := hretry
  links _ := Or.inl ⟨nofun, nofun⟩
  key _ := Or.inr (Or.inl rfl)
  region := Or.inl fun h => absurd (h ▸ hst) (by decide)
  offVerified := hverified
  offFreezeList := hfreeze
  sweeping _ := rfl

theorem not_mem_filter_ne (l : List Slot) (n : Slot) : n ∉ l.filter fun m => m != n := by
  simp

theorem Path.hold (s : State) (n : Slot) (h : (s.slot n).stage.holdable = true) : Path s (s.hold n) := by
  unfold State.hold State.undoForHold
  have plain : ∀ t : State, Path s t → (t.slot n).stage = (s.slot n).stage →
      ((t.slot n).stage = .frozen → (t.slot n).retryTimer = none) →
      ((t.slot n).stage = .verified → n ∉ t.su.verified) → ((t.slot n).stage = .freezing → n ∉ t.cc.freezeList) →
      (t.slot n).stage ≠ .sweeping → Path s (t.changeStage n .held) := fun t hp hst hr hv hf hsw =>
    hp.trans (.changeStage (State.mayEnter_held (hst ▸ h) hr hv hf) hsw rfl)
  rcases hst : (s.slot n).stage
  case vacant | loaded | held => rw [hst] at h; exact absurd h (by decide)
  case scanning | decoding | composing =>
    refine plain s (.refl s) rfl ?_ ?_ ?_ ?_
    all_goals simp [hst]
  case freezing =>
    have hslot : ((s.abandonFreeze n).slot n).stage = .freezing := by rw [State.abandonFreeze_eq]; exact hst
    refine plain _ (.abandonFreeze s n) (hslot.trans hst.symm) ?_ ?_ ?_ ?_
    case refine_3 =>
      intro _
      rw [State.abandonFreeze_eq]
      exact not_mem_filter_ne _ _
    all_goals simp [hslot]
  case frozen =>
    have hserve : (s.slot n).Serves s.su.timing.retryLimit.toNat { s.slot n with retryTimer := none } := by
      constructor <;> simp
    refine plain _ (.modSlot s n _ hserve) ?_ ?_ ?_ ?_ ?_
    all_goals simp [hst]
  case verified =>
    refine plain _ (Move.path (.leaveVerified n)) rfl ?_ ?_ ?_ ?_
    case refine_2 => intro _; exact not_mem_filter_ne _ _
    all_goals simp [hst]
  case sweeping =>
    have hop : Path s { s with mp := s.mp.withoutSweep s.sw n } := by
      unfold MemoryPort.withoutSweep
      split
      · exact .setOp s _ (State.performs_abandon s _ (Or.inr rfl))
      · exact .refl s
    refine hop.trans (Path.enter (n := n) (st := .held) (State.mayEnter_held h ?_ ?_ ?_) ?_)
    case refine_4 =>
      have hsw : (({ s with mp := s.mp.withoutSweep s.sw n } : State).slot n).stage = .sweeping := hst
      show SameBooks _ ((s.abandonSweep n).changeStage n .held)
      rw [State.abandonSweep_eq]
      unfold State.relocate
      rw [if_pos hsw]
      constructor <;> rfl
    all_goals
      show (s.slot n).stage = _ → _
      simp [hst]

end Sys2Proof.Machine
end

section
/-! SUPPORT. The events of the Stage Unit, the Index Matcher, the Card Check Unit and the Access Checker as paths of moves (chapters 2 to 7). -/

namespace Sys2Proof.Machine

/-! Requests (R43 to R58). -/

/-- A slot in service moves on to a stage in service that stands in no list, from a stage that stands in none. -/
theorem State.mayEnter_next {s : State} {n : Slot} {st : Stage} (hst : st ≠ .vacant ∧ st ≠ .held ∧ st ≠ .sweeping ∧ st ≠ .loaded)
    (hold : (s.slot n).stage ∈ [Stage.loaded, .scanning, .decoding, .composing, .held])
    (hverified : st = .verified → (s.slot n).heldFrom = some .verified)
    (hkey : (s.slot n).mayHoldKey → st.keyed = true ∨ (s.slot n).keyEst = false) : s.MayEnter n st := by
  obtain ⟨hvacant, hheld, hsweeping, hloaded⟩ := hst
  exact
    { occupied := hvacant
      held := fun h => absurd h hheld
      verified := fun h => Or.inl (hverified h)
      retry := fun h => absurd hold (by rw [h]; decide)
      links := fun _ => Or.inl ⟨hloaded, hsweeping⟩
      key := fun h => (hkey h).imp_right Or.inr
      region := Or.inl fun h => absurd hold (by rw [h]; decide)
      offVerified := fun h => absurd hold (by rw [h]; decide)
      offFreezeList := fun h => absurd hold (by rw [h]; decide)
      sweeping := fun h => absurd hold (by rw [h]; decide) }

theorem slotOfWord_of_eq {w : Word} {p : Slot} (h : slotOfWord w = some p) : w.toNat = p.val := by
  unfold slotOfWord at h
  split at h
  · obtain rfl := Option.some.inj h; rfl
  · exact absurd h nofun

/-- The last fault is forgotten, or set: no law reads it. -/
theorem SlotRec.serves_lastFault (limit : Nat) (r : SlotRec) (f : Option (FaultKind × Word)) :
    r.Serves limit { r with lastFault := f } := by
  constructor
  case retryTimer => exact Or.inl
  all_goals simp

/-- The match state is reset: no law reads it. -/
theorem SlotRec.serves_resetMatch (limit : Nat) (r : SlotRec) (seen : Bool) : r.Serves limit (r.resetMatch seen) := by
  constructor
  case retryTimer => exact Or.inl
  all_goals simp [SlotRec.resetMatch]

theorem Path.takeOpen (s : State) (n : Slot) (hn : (s.slot n).stage = .loaded) (hchain : s.chainPasses n = true) :
    Path s (s.takeOpen n) := by
  have hlast : ∀ t : State, Path s t → Path s (t.modSlot n fun r => { r with lastFault := none }) := fun t h =>
    h.trans (.modSlot t n _ (SlotRec.serves_lastFault _ _ _))
  refine hlast _ ?_
  have head : Path s (s.changeStage n .scanning) := by
    refine .changeStage (State.mayEnter_next ⟨by decide, by decide, by decide, by decide⟩ ?_ nofun ?_) ?_ rfl
    · simp [hn]
    · simp [SlotRec.mayHoldKey, hn, Stage.keyed]
    · simp [hn]
  unfold State.chainPasses at hchain
  unfold State.linkRequested
  split
  case isTrue => exact head
  case isFalse hreq =>
    rw [if_neg hreq] at hchain
    split
    case h_1 p hp =>
      rw [hp] at hchain
      simp only [State.chainChecks, Bool.and_eq_true, bne_iff_ne, Option.isNone_iff_eq_none] at hchain
      obtain ⟨⟨⟨⟨hin, hsucc⟩, hne⟩, -⟩, -⟩ := hchain
      refine (Move.path (.openBehind n p hn hin hsucc hne)).books ?_
      have hslot : ((s.linkPair n p).slot n).stage = .loaded := by
        rw [State.slot_linkPair _ _ _ _ hne, if_neg hne.symm, if_pos rfl]; exact hn
      unfold State.relocate
      rw [hslot]
      constructor <;> rfl
    case h_2 hp => rw [hp] at hchain; exact absurd hchain Bool.false_ne_true

theorem Path.takeFrameDone (s : State) (n : Slot) (hn : (s.slot n).stage = .scanning) : Path s (s.takeFrameDone n) := by
  refine Path.trans (.changeStage ?_ (by simp [hn]) rfl) (.modSlot _ n _ (SlotRec.serves_resetMatch _ _ _))
  refine State.mayEnter_next ⟨by decide, by decide, by decide, by decide⟩ (by simp [hn]) nofun ?_
  simp [SlotRec.mayHoldKey, hn, Stage.keyed]

theorem Path.takeFreeze (s : State) (n : Slot) (hn : (s.slot n).stage = .composing) : Path s (s.takeFreeze n) := by
  refine (Path.trans ?_ (.takeUpFreeze _)).books (.arbitrate _)
  refine Path.enter (n := n) (st := .freezing)
    (State.mayEnter_next ⟨by decide, by decide, by decide, by decide⟩ (by simp [hn]) nofun fun _ => Or.inl rfl) ?_
  unfold State.relocate
  rw [hn]
  constructor <;> rfl

/-- A slot without key and links goes to the tail of the sweep queue (R51, R53). -/
theorem Path.sweepOff (s : State) (n : Slot) (hst : (s.slot n).stage ≠ .vacant ∧ (s.slot n).stage ≠ .sweeping)
    (hretry : (s.slot n).stage = .frozen → (s.slot n).retryTimer = none)
    (hverified : (s.slot n).stage = .verified → n ∉ s.su.verified)
    (hfreeze : (s.slot n).stage = .freezing → n ∉ s.cc.freezeList) :
    Path s ((((s.releaseKey n).unlink n).changeStage n .sweeping).joinSweep n) := by
  have hkey := (Move.path (.releaseKey (s := s) n)).trans (Move.path (.unlink n))
  set t := (s.releaseKey n).unlink n with ht
  have hslot : t.slot n = { s.slot n with keyEst := false, pred := none, succ := none } := by
    rw [ht, State.slot_unlink, if_pos rfl, State.slot_releaseKey, if_pos rfl]
  have hsu : t.su = s.su := by rw [ht, State.unlink_eq]; rfl
  have hcc : t.cc = s.cc := by rw [ht, State.unlink_eq]; rfl
  refine hkey.trans (Path.enter (n := n) (st := .sweeping) ?_ ?_)
  · exact
      { occupied := nofun
        held := nofun
        verified := nofun
        retry := by rw [hslot]; exact hretry
        links := fun _ => Or.inr (by rw [hslot]; exact ⟨rfl, rfl⟩)
        key := fun _ => Or.inr (Or.inr (by rw [hslot]))
        region := Or.inl (by rw [hslot]; exact hst.1)
        offVerified := by rw [hslot, hsu]; exact hverified
        offFreezeList := by rw [hslot, hcc]; exact hfreeze
        sweeping := fun h => absurd (by rw [hslot] at h; exact h) hst.2 }
  · have hne : (t.slot n).stage ≠ .sweeping := by rw [hslot]; exact hst.2
    unfold State.relocate
    rw [if_neg hne]
    constructor <;> rfl

theorem Path.takeRetire (s : State) (n : Slot) (hn : (s.slot n).stage = .verified) : Path s (s.takeRetire n) := by
  refine (Move.path (.leaveVerified n)).trans (.sweepOff _ n ?_ ?_ ?_ ?_)
  case refine_3 => intro _; exact not_mem_filter_ne _ _
  all_goals simp [hn]

theorem Path.takeDiscard (s : State) (n : Slot) (t : Tag) (hn : (s.slot n).stage ≠ .vacant ∧ (s.slot n).stage ≠ .sweeping) :
    Path s (s.takeDiscard n t) := by
  unfold State.takeDiscard
  split
  case isTrue h => exact Move.path (.empty n h)
  case isFalse hloaded =>
    have off : ∀ u : State, Path s u → (u.slot n).stage = (s.slot n).stage →
        ((u.slot n).stage = .frozen → (u.slot n).retryTimer = none) →
        ((u.slot n).stage = .verified → n ∉ u.su.verified) → ((u.slot n).stage = .freezing → n ∉ u.cc.freezeList) →
        Path s (((((u.releaseKey n).unlink n).changeStage n .sweeping).joinSweep n).raiseOrphan s n t).arbitrate :=
      fun u hu hst hr hv hf => ((hu.trans (.sweepOff u n (hst ▸ hn) hr hv hf)).trans (.raiseOrphan _ s n t)).books
        (.arbitrate _)
    unfold State.undoForDiscard
    rcases hst : (s.slot n).stage
    case vacant => exact absurd hst hn.1
    case sweeping => exact absurd hst hn.2
    case loaded => exact absurd hst hloaded
    case freezing =>
      have hslot : ((s.abandonFreeze n).slot n).stage = .freezing := by rw [State.abandonFreeze_eq]; exact hst
      refine off _ (.abandonFreeze s n) (hslot.trans hst.symm) ?_ ?_ ?_
      case refine_3 =>
        intro _
        rw [State.abandonFreeze_eq]
        exact not_mem_filter_ne _ _
      all_goals simp [hslot]
    case frozen =>
      have hserve : (s.slot n).Serves s.su.timing.retryLimit.toNat { s.slot n with retryTimer := none } := by
        constructor <;> simp
      refine off _ (.modSlot s n _ hserve) ?_ ?_ ?_ ?_
      all_goals simp [hst]
    case verified =>
      refine off _ (Move.path (.leaveVerified n)) rfl ?_ ?_ ?_
      case refine_2 => intro _; exact not_mem_filter_ne _ _
      all_goals simp [hst]
    all_goals
      refine off s (.refl s) rfl ?_ ?_ ?_
      all_goals simp [hst]

theorem Path.takeReopen (s : State) (n : Slot) (hn : (s.slot n).stage = .held) : Path s (s.takeReopen n) := by
  have hst : ((s.releaseKey n).slot n).stage = .held := by rw [State.slot_releaseKey, if_pos rfl]; exact hn
  refine (Move.path (.releaseKey n)).trans (Path.trans (.changeStage (n := n) (st := .scanning) ?_ (by rw [hst]; decide) rfl) ?_)
  · refine State.mayEnter_next ⟨by decide, by decide, by decide, by decide⟩ (by rw [hst]; decide) nofun fun _ => Or.inr ?_
    rw [State.slot_releaseKey, if_pos rfl]
  · refine .modSlot _ n _ ?_
    rw [State.slot_changeStage, if_pos rfl]
    constructor <;> simp [SlotRec.freshCheck, SlotRec.resetMatch, SlotRec.enter]

/-- A held slot with a key resumes to a stage that keeps it (R56, R79). -/
theorem resumeTarget_keyed {h st : Stage} (ht : resumeTarget h = some st) (hk : h.keyed = true) : st.keyed = true := by
  revert ht hk
  cases h <;> simp [resumeTarget, Stage.keyed] <;> rintro rfl <;> rfl

theorem Path.takeResume (s : State) (n : Slot) (hn : (s.slot n).stage = .held) : Path s (s.takeResume n) := by
  unfold State.takeResume
  split
  case h_2 => exact .refl s
  case h_1 h hh =>
    split
    case h_2 => exact .refl s
    case h_1 st hst =>
      have hkey : (s.slot n).mayHoldKey → st.keyed = true ∨ (s.slot n).keyEst = false := by
        rintro (hk | ⟨-, hk⟩)
        · rw [hn] at hk; exact absurd hk (by decide)
        · rw [hh] at hk; exact Or.inl (resumeTarget_keyed hst hk)
      have hheld : (s.slot n).stage ∈ [Stage.loaded, .scanning, .decoding, .composing, .held] := by simp [hn]
      have plain : st.listed = false → st ≠ .vacant ∧ st ≠ .held ∧ st ≠ .sweeping ∧ st ≠ .loaded →
          Path s (s.changeStage n st) := fun hl hne =>
        .changeStage (State.mayEnter_next hne hheld (by rintro rfl; exact absurd hl (by decide)) hkey) (by simp [hn]) hl
      unfold State.redoForResume
      cases h
      case vacant | loaded | held => exact absurd hst nofun
      all_goals obtain rfl := Option.some.inj hst
      case scanning | composing | freezing => exact plain rfl ⟨nofun, nofun, nofun, nofun⟩
      case decoding =>
        exact (plain rfl ⟨nofun, nofun, nofun, nofun⟩).trans (.modSlot _ n _ (SlotRec.serves_resetMatch _ _ _))
      case frozen =>
        refine (plain rfl ⟨nofun, nofun, nofun, nofun⟩).trans (.modSlot _ n _ ?_)
        constructor
        case retryTimer => exact Or.inl
        all_goals simp
      case verified =>
        refine Path.enter (n := n) (st := .verified)
          (State.mayEnter_next ⟨nofun, nofun, nofun, nofun⟩ hheld (fun _ => hh) hkey) ?_
        unfold State.relocate
        rw [hn]
        constructor <;> rfl
      case sweeping =>
        have hnokey : ¬(s.slot n).mayHoldKey := by simp [SlotRec.mayHoldKey, hn, hh, Stage.keyed]
        refine Path.enter (n := n) (st := .sweeping)
          { occupied := nofun
            held := nofun
            verified := nofun
            retry := by simp [hn]
            links := by simp [SlotRec.inService, hn, hh]
            key := fun h => absurd h hnokey
            region := Or.inl (by simp [hn])
            offVerified := by simp [hn]
            offFreezeList := by simp [hn]
            sweeping := by simp [hn] } ?_
        unfold State.relocate
        rw [hn]
        constructor <;> rfl

/-- What the tests of R44 have shown of a write that is taken. -/
theorem State.judgeWrite_taken {s : State} {w : StageWrite} {q : StageRequest} (h : s.judgeWrite w = .taken q) :
    q.takenIn (s.slot w.slot) = true ∧ (q = .openCard → s.chainPasses w.slot = true) := by
  have hchain : ∀ q' : StageRequest, s.judgeChain w.slot q' = .taken q →
      q' = q ∧ (q = .openCard → s.chainPasses w.slot = true) := by
    intro q' hq
    unfold State.judgeChain at hq
    cases q'
    case openCard =>
      simp only at hq
      split at hq
      case isTrue hpass => obtain rfl := Judgement.taken.inj hq; exact ⟨rfl, fun _ => hpass⟩
      case isFalse => exact absurd hq nofun
    case reopen =>
      simp only at hq
      split at hq
      · exact absurd hq nofun
      · obtain rfl := Judgement.taken.inj hq; exact ⟨rfl, nofun⟩
    all_goals
      obtain rfl := Judgement.taken.inj hq
      exact ⟨rfl, nofun⟩
  unfold State.judgeWrite at h
  split at h
  · exact absurd h nofun
  · split at h
    · exact absurd h nofun
    · split at h
      · exact absurd h nofun
      · split at h
        · exact absurd h nofun
        · rename_i htaken
          obtain ⟨rfl, hpass⟩ := hchain _ h
          exact ⟨by simpa using htaken, hpass⟩

theorem Path.takeRequest (s : State) (n : Slot) (t : Tag) (q : StageRequest) (h : q.takenIn (s.slot n) = true)
    (hchain : q = .openCard → s.chainPasses n = true) : Path s (s.takeRequest n t q) := by
  unfold StageRequest.takenIn at h
  cases q
  case openCard => exact .takeOpen s n (by simpa using h) (hchain rfl)
  case frameDone => exact .takeFrameDone s n (by simpa using h)
  case freeze => exact .takeFreeze s n (by simpa using h)
  case retire => exact .takeRetire s n (by simpa using h)
  case reopen => exact .takeReopen s n (by simp_all)
  case resume => exact .takeResume s n (by simp_all)
  case discard => exact .takeDiscard s n t (by constructor <;> intro hst <;> simp [hst] at h)

theorem Path.takeWrite (s : State) (w : StageWrite) : Path s (s.takeWrite w) := by
  unfold State.takeWrite
  split
  · exact (SameBooks.answer s _ _).path.trans (.endLock _ _ _ _)
  · split
    case h_1 => exact ((SameBooks.answer s _ _).path.trans (.endLock _ _ _ _)).books (.report _ _)
    case h_2 q hq =>
      obtain ⟨htaken, hpass⟩ := State.judgeWrite_taken hq
      exact (SameBooks.answer s _ _).path.trans (.takeRequest _ _ _ _ htaken hpass)

/-! The taps (R70 to R75, R107 to R116). -/

theorem Path.judgeComplete (s : State) (n : Slot) (t : Tag) (offset : Nat) (hn : (s.slot n).stage = .decoding) :
    Path s (s.judgeComplete n t offset) := by
  unfold State.judgeComplete
  simp only
  split
  · exact (SameBooks.report _ _).path
  · split
    · exact (SameBooks.report _ _).path
    · split
      case h_1 => exact (SameBooks.report _ _).path
      case h_2 hdup => exact Move.path (.establish n hn hdup)

theorem Path.indexTap (s : State) (n : Slot) (t : Tag) (offset : Nat) (bytes : List Byte)
    (hn : (s.slot n).stage = .decoding) : Path s (s.indexTap n t offset bytes) := by
  have hfollow : (s.slot n).Serves s.su.timing.retryLimit.toNat ((s.slot n).follow offset bytes) := by
    constructor
    case retryTimer => exact Or.inl
    all_goals simp [SlotRec.follow]
  have hpath := Path.modSlot s n (fun r => r.follow offset bytes) hfollow
  unfold State.indexTap
  simp only
  split
  · exact hpath.trans (.judgeComplete _ n t offset (by rw [State.slot_modSlot_self]; exact hn))
  · exact hpath.books (.report _ _)
  · exact hpath

theorem Path.settleReadback (s : State) (n : Slot) : Path s (s.settleReadback n).1 := by
  unfold State.settleReadback
  split
  case h_2 hn =>
    split
    case h_1 =>
      unfold State.applyRetry
      simp only
      split
      all_goals dsimp only
      · refine Path.modSlot s n _ ?_
        constructor
        case retryTimer => exact Or.inl
        all_goals simp
      · refine Path.modSlot s n _ ?_
        constructor
        case retryTimer => exact fun _ => Or.inr hn
        all_goals simp [SlotRec.restartReadback]
    all_goals exact .refl s
  all_goals exact .refl s

theorem Path.raiseReadback (s : State) (n : Slot) (t : Tag) (detail : FaultDetail) (offset : Nat) (a b : Word) :
    Path s (s.raiseReadback n t detail offset a b) := (Path.settleReadback s n).books (.report _ _)

theorem Path.endOfRun (s : State) (n : Slot) (t : Tag) (offset : Nat) (hn : (s.slot n).stage = .frozen)
    (hflags : (s.slot n).punch = true ∧ (s.slot n).print = true) (hretry : (s.slot n).retryTimer = none) :
    Path s (s.endOfRun n t offset) := by
  unfold State.endOfRun
  simp only
  split
  · refine Path.books ?_ (.latch _ _)
    refine Path.enter (n := n) (st := .verified)
      { occupied := nofun
        held := nofun
        verified := fun _ => Or.inr hflags
        retry := fun _ => hretry
        links := fun _ => Or.inl ⟨nofun, nofun⟩
        key := fun _ => Or.inl rfl
        region := Or.inl (by simp [hn])
        offVerified := by simp [hn]
        offFreezeList := by simp [hn]
        sweeping := by simp [hn] } ?_
    unfold State.relocate
    rw [hn]
    constructor <;> rfl
  · exact .raiseReadback _ _ _ _ _ _ _

theorem Path.readbackTap (s : State) (n : Slot) (t : Tag) (offset : Nat) (bytes : List Byte)
    (hn : (s.slot n).stage = .frozen) (hflags : (s.slot n).punch = true ∧ (s.slot n).print = true)
    (hretry : (s.slot n).retryTimer = none) (hend : (s.slot n).rbPtr + bytes.length ≤ 0x210) :
    Path s (s.readbackTap n t offset bytes) := by
  have hserve : (s.slot n).Serves s.su.timing.retryLimit.toNat
      { s.slot n with runCrc := crcBytes (s.slot n).runCrc bytes, rbPtr := (s.slot n).rbPtr + bytes.length } := by
    constructor
    case retryTimer => exact Or.inl
    case rbPtr => exact Or.inr ⟨Nat.le_add_right _ _, Or.inr hend⟩
    all_goals simp
  have hpath := Path.modSlot s n
    (fun r => { r with runCrc := crcBytes r.runCrc bytes, rbPtr := r.rbPtr + bytes.length }) hserve
  unfold State.readbackTap
  simp only
  split
  · refine hpath.trans (.endOfRun _ n t offset ?_ ?_ ?_)
    all_goals rw [State.slot_modSlot_self]
    · exact hn
    · exact hflags
    · exact hretry
  · exact hpath

theorem Path.takeSequence (s : State) : Path s s.takeSequence := by
  unfold State.takeSequence
  split
  case h_1 f rest _ =>
    exact (SameBooks.path (t := { s with cc := { s.cc with seqFaults := rest } }) (by constructor <;> rfl)).trans
      (.raiseReadback _ _ _ _ _ _ _)
  case h_2 => exact .refl s

end Sys2Proof.Machine
end

section
/-! SUPPORT. The staging bus, the portal, the memory port, the Fault Unit and the timers as paths of moves; every step as a path; the statements that
every step keeps the laws. -/

namespace Sys2Proof.Machine

/-! The staging bus (R22 to R41, R118). -/

/-- An access to an occupied slot that starts below its limit, or within its first granule, takes a free place. -/
theorem Path.enqueue (s : State) (a : Access) (overlay : Bool) (hn : a.noSize = false) (hroom : s.mp.queue.length < 16)
    (hst : (s.slot a.slot).stage ≠ .vacant) (hin : a.offset < max 1 (s.slot a.slot).limit * 4096) :
    Path s (s.enqueue a overlay) := by
  have hend := a.end_le hn hin
  refine Move.path (.push (s.entryFor a overlay) hroom hst ?_ fun hwr => ?_)
  · show (s.slot a.slot).base * 4096 + a.offset + a.size ≤ ((s.slot a.slot).base + max 1 (s.slot a.slot).limit) * 4096
    rw [Nat.add_mul]
    omega
  · have hwr' : a.wr = true := hwr
    simp [State.entryFor, hwr']

theorem Path.statusRead (s : State) (a : Access) (hn : a.noSize = false) (h : s.condition a 3) : Path s (s.statusRead a) := by
  unfold State.statusRead
  simp only
  split
  · exact (SameBooks.answer _ _ _).path
  · split
    · exact (SameBooks.answer _ _ _).path
    · split
      · exact (SameBooks.answer _ _ _).path
      · rename_i hst hfull
        have hlow : a.offset < 0x10 := h.2
        refine Path.books (.enqueue s a true hn ?_ (fun h => hst (Or.inl h)) ?_) (.arbitrate _)
        · exact Nat.lt_of_not_le fun hle => hfull (decide_eq_true hle)
        · omega

theorem Path.stageWrite (s : State) (a : Access) (d : Bool) : Path s (s.stageWrite a d) := by
  unfold State.stageWrite
  split
  · exact (SameBooks.answer _ _ _).path
  · split
    · exact SameBooks.path (by constructor <;> rfl)
    · exact .takeWrite _ _

theorem Path.lockStep (s : State) (a : Access) : Path s (s.lockStep a) := by
  unfold State.lockStep
  split
  · exact (SameBooks.answer _ _ _).path
  · split
    · split
      · exact (Path.deny s a).books (.report _ _)
      · exact .deny s a
    · exact (Path.deny s a).books (.report _ _)

theorem Path.orderStep (s : State) (a : Access) : Path s (s.orderStep a) := by
  unfold State.orderStep
  split
  · exact (SameBooks.answer _ _ _).path
  · exact (Path.deny s a).books (by constructor <;> rfl)

/-- Neither the queue nor the lock table bears on the tap of a write. -/
theorem Path.tap (s t : State) (a : Access) (h : s.decidingStep a = 14) (hwr : a.wr = true)
    (hslots : t.slots = s.slots) (hroles : t.acc.roles = s.acc.roles) : Path t (t.tap a) := by
  have hslot : ∀ m : Slot, t.slot m = s.slot m := fun m => by unfold State.slot; rw [hslots]
  have hrole : t.role a.tag = s.role a.tag := by unfold State.role; rw [hroles]
  unfold State.tap
  rw [hrole]
  split
  case isTrue hdec =>
    obtain ⟨hrole, -⟩ := Bool.and_eq_true_iff.mp hdec
    exact .indexTap t _ _ _ _ (by rw [hslot]; exact s.decoding_of_accepted h (beq_iff_eq.mp hrole))
  case isFalse =>
    split
    case isTrue hver =>
      obtain ⟨hrole, htouch⟩ := Bool.and_eq_true_iff.mp hver
      have hrole := beq_iff_eq.mp hrole
      have htouch := (coversArea_iff _ _ _).mp htouch
      obtain ⟨hstage, -, hend⟩ := s.readback_of_accepted h hwr hrole
      obtain ⟨hpunch, hprint, hretry, hptr⟩ := s.inSequence_of_accepted h hwr hrole htouch
      refine .readbackTap t _ _ _ _ ?_ ?_ ?_ ?_
      all_goals rw [hslot]
      · exact hstage
      · exact ⟨hpunch, hprint⟩
      · exact hretry
      · rw [← hptr]; simpa [Access.bytes] using hend
    case isFalse => exact .refl t

theorem Path.enqueue_accepted (s : State) (a : Access) (hn : a.noSize = false) (h : s.decidingStep a = 14) :
    Path s (s.enqueue a false) := by
  refine .enqueue s a false hn (s.room_of_accepted h) (s.occupied_of_accepted h (by decide)) ?_
  have hin := s.inRegion_of_accepted h hn
  have hpos := a.size_pos
  omega

theorem Path.acceptWrite (s : State) (a : Access) (hn : a.noSize = false) (h : s.decidingStep a = 14) (hwr : a.wr = true) :
    Path s (s.acceptWrite a) := by
  have hpath := (((Path.enqueue_accepted s a hn h).books (.answer _ .accepted [])).trans (.endLock _ a.lclose a.slot a.tag))
  refine (hpath.trans (.tap s _ a h hwr ?_ ?_)).books (.arbitrate _)
  · rw [State.endLock_eq]; rfl
  · rw [State.endLock_eq]; rfl

theorem Path.acceptRead (s : State) (a : Access) (hn : a.noSize = false) (h : s.decidingStep a = 14) (hwr : a.wr = false) :
    Path s (s.acceptRead a) := by
  have hpath := Path.enqueue_accepted s a hn h
  unfold State.acceptRead
  refine Path.books ?_ (.arbitrate _)
  split
  case isTrue hopen =>
    have hlock : ¬s.condition a 10 := s.not_condition_of_lt 10 h (by decide) (by decide)
    have hguard : ¬s.condition a 11 := s.not_condition_of_lt 11 h (by decide) (by decide)
    simp only [State.condition, not_or, not_exists, not_and, not_not, ne_eq] at hlock hguard
    obtain ⟨hother, hsecond, -⟩ := hlock
    have htag : ∀ l ∈ s.acc.locks, l.tag ≠ a.tag := hsecond hwr hopen
    refine hpath.trans (Move.path (.lock _ ?_ ?_ (fun l hl he => ?_) htag))
    · show (s.slot a.slot).guardActive = false
      simp [SlotRec.guardActive, SlotRec.drainFlag, hguard.1, Nat.le_of_not_lt hguard.2]
    · exact hasRights_of_hasRight (s.hasRight_of_accepted h a.size_pos)
    · exact htag l hl (hother l hl he)
  case isFalse => exact hpath

theorem Path.applyStep (s : State) (a : Access) (d : Bool) (hn : a.noSize = false) :
    Path s (s.applyStep a d (s.decidingStep a)) := by
  have hmem := Finset.mem_Icc.mp (s.decidingStep_mem a)
  generalize hk : s.decidingStep a = k at hmem
  obtain ⟨h1, h14⟩ := hmem
  interval_cases k
  -- The steps in their order, 1 to 14 (R22).
  · exact .deny s a
  · exact (SameBooks.answer s _ _).path.books (.report _ _)
  · exact .statusRead s a hn (State.condition_of_step hk (by decide))
  · exact (Path.deny s a).books (.report _ _)
  · exact (Path.deny s a).books (.report _ _)
  · exact .stageWrite s a d
  · exact (SameBooks.answer _ _ _).path
  · exact .deny s a
  · exact (Path.deny s a).books (.report _ _)
  · exact .lockStep s a
  · exact (SameBooks.answer _ _ _).path
  · exact .orderStep s a
  · exact (SameBooks.answer _ _ _).path
  · show Path s (if a.wr then s.acceptWrite a else s.acceptRead a)
    split
    case isTrue hwr => exact .acceptWrite s a hn hk hwr
    case isFalse hwr => exact .acceptRead s a hn hk (by simpa using hwr)

theorem Path.access (s : State) (a : Access) (d : Bool) : Path s (s.access a d) := by
  unfold State.access
  split
  case isTrue => exact (SameBooks.answer _ _ _).path
  case isFalse hn => exact .applyStep s a d (by simpa using hn)

theorem Path.arrival (s : State) (a : Access) (d : Bool) : Path s (s.arrival a d) := by
  unfold State.arrival
  split
  · exact .refl s
  · exact .access s a d

theorem SameBooks.unhand (s : State) : SameBooks s { s with su := { s.su with handed := none } } := by
  constructor <;> rfl

theorem Path.requestRow (s : State) (n : Slot) (t : Tag) (c : Bool) (q : StageRequest) : Path s (s.requestRow n t c q) := by
  unfold State.requestRow
  split
  · split
    · exact (SameBooks.unhand s).path.trans (.takeWrite _ _)
    · exact .refl s
  · exact .access s _ false

/-! The memory port (R98 to R103, R126 to R133, R136 to R138). -/

theorem State.asks_of_grantee {s : State} {r : Requester} (h : s.grantee = some r) : s.asks r = true := by
  unfold State.grantee at h
  split at h
  · exact absurd h nofun
  · split at h
    case isTrue hdue => rw [h] at hdue; exact hdue
    case isFalse =>
      unfold State.byTable at h
      split at h
      case isTrue ha => obtain rfl := Option.some.inj h; exact ha
      case isFalse =>
        split at h
        case isTrue ha => obtain rfl := Option.some.inj h; exact (Bool.and_eq_true_iff.mp ha).1
        case isFalse =>
          split at h
          case isTrue ha => obtain rfl := Option.some.inj h; exact ha
          case isFalse =>
            split at h
            case isTrue ha => obtain rfl := Option.some.inj h; exact ha
            case isFalse => exact absurd h nofun

/-- A grant: memory performs the operation, and the arbiter has no requester in hand. -/
theorem Path.perform {s t : State} (op : MemOp) (wait : Nat) (hop : s.Performs (some op))
    (hwait : wait = s.mp.sweepWait ∨ wait ≤ 16)
    (ht : SameBooks { s with mp := { s.mp with op := some op, sweepWait := wait } } t) : Path s t :=
  (Move.path (.perform (some op) wait hop hwait)).books ht

theorem Path.grantQueueHead (s : State) : Path s s.grantQueueHead := by
  unfold State.grantQueueHead
  split
  case isTrue h =>
    have hasks : s.mp.queue ≠ [] := by simpa [State.asks, State.queueAsks] using State.asks_of_grantee h
    refine .perform .queueHead _ (Or.inr hasks) ?_ (by constructor <;> rfl)
    split
    · exact Or.inr (Nat.min_le_left _ _)
    · exact Or.inl rfl
  case isFalse => exact .refl s

theorem Path.grantFreezeRead (s : State) : Path s s.grantFreezeRead := by
  unfold State.grantFreezeRead
  split
  case h_1 f hf =>
    split
    · exact .perform (.freezeRead f.slot (f.returned + 1) _ false) _ (Or.inr ⟨f, hf, rfl⟩) (Or.inl rfl)
        (by constructor <;> rfl)
    · exact .refl s
  case h_2 => exact .refl s

theorem Path.grantBurst (s : State) : Path s s.grantBurst := by
  unfold State.grantBurst
  split
  case h_1 w hw =>
    split
    case isTrue h =>
      have hasks := State.asks_of_grantee h
      simp only [State.asks, State.sweepAsks, hw, Bool.and_eq_true, decide_eq_true_eq] at hasks
      exact .perform (.sweepBurst w.slot w.done _ false) 0 (Or.inr ⟨w, hw, hasks.2, rfl⟩) (Or.inr (Nat.zero_le _))
        (by constructor <;> rfl)
    case isFalse => exact .refl s
  case h_2 => exact .refl s

theorem State.queue_of_headInFlight {s : State} {wr : Bool} {e : QEntry} (h : s.headInFlight wr = some e) :
    ∃ rest, s.mp.op = some .queueHead ∧ s.mp.queue = e :: rest ∧ e.wr = wr := by
  unfold State.headInFlight at h
  split at h
  case h_1 x rest hop hq =>
    split at h
    case isTrue hwr => obtain rfl := Option.some.inj h; exact ⟨rest, hop, hq, hwr⟩
    case isFalse => exact absurd h nofun
  case h_2 => exact absurd h nofun

theorem Path.completeHead {s : State} {wr : Bool} {e : QEntry} (h : s.headInFlight wr = some e) :
    Path s (s.completeHead e) := by
  obtain ⟨rest, -, hq, -⟩ := State.queue_of_headInFlight h
  exact Move.path (.complete e rest hq)

theorem Path.performWrite {s t : State} {pa : Nat} {bytes : List Byte} (h : s.performWrite pa bytes = .next t) : Path s t := by
  obtain ⟨-, rfl⟩ := State.performWrite_next _ _ _ _ h
  exact Move.path (.write pa bytes)

theorem Path.spoil (s : State) (pa n : Nat) : Path s (s.spoil pa n) := by
  unfold State.spoil
  split
  · exact (Move.path (.write pa _)).books (by constructor <;> rfl)
  · exact .refl s

theorem Path.readDone {s t : State} (h : s.readDone = .next t) : Path s t := by
  unfold State.readDone at h
  split at h
  case h_1 e he =>
    obtain ⟨-, rfl⟩ := State.performRead_next _ _ _ _ _ h
    refine Path.books (Path.books ((Path.completeHead he).trans (.modSlot _ _ _ ?_)) (.answerQueued _ _ _ _)) (.arbitrate _)
    constructor
    case retryTimer => exact Or.inl
    all_goals simp [SlotRec.afterRead]
    tauto
  case h_2 => obtain rfl := Host.Outcome.next.inj h; exact .refl s

theorem Path.readError (s : State) : Path s s.readError := by
  unfold State.readError
  split
  case h_1 e he =>
    exact (((Path.completeHead he).books (.answerQueued _ _ _ _)).books (.report _ _)).books (.arbitrate _)
  case h_2 => exact .refl s

theorem Path.writeDone {s t : State} (h : s.writeDone = .next t) : Path s t := by
  unfold State.writeDone at h
  split at h
  case h_1 e he => exact ((Path.completeHead he).books (.arbitrate _)).trans (.performWrite h)
  case h_2 => obtain rfl := Host.Outcome.next.inj h; exact .refl s

theorem Path.writeError (s : State) : Path s s.writeError := by
  unfold State.writeError
  split
  case h_1 e he =>
    exact (((Path.completeHead he).trans (.spoil _ _ _)).books (.report _ _)).books (.arbitrate _)
  case h_2 => exact .refl s

theorem Path.enterFreezeData (s : State) (f : Freeze) (bytes : List Byte) (hf : s.cc.freeze = some f) :
    Path s (s.enterFreezeData f bytes) := by
  unfold State.enterFreezeData
  simp only
  split
  · exact (Move.path (.endFreeze f _ hf)).trans (.takeUpFreeze _)
  · exact Move.path (.setFreeze _ (Or.inr ⟨f, hf, rfl⟩))

theorem Path.discardFreezeRead (s : State) : Path s s.freeMemory.takeUpFreeze.arbitrate :=
  ((Path.freeMemory s).trans (.takeUpFreeze _)).books (.arbitrate _)

theorem Path.returnFreezeRead {s t : State} (h : s.returnFreezeRead = .next t) : Path s t := by
  unfold State.returnFreezeRead at h
  split at h
  case h_1 f hop hf =>
    obtain ⟨-, rfl⟩ := State.performRead_next _ _ _ _ _ h
    exact ((Path.freeMemory s).trans (.enterFreezeData _ f _ hf)).books (.arbitrate _)
  case h_2 | h_3 => obtain rfl := Host.Outcome.next.inj h; exact .discardFreezeRead s
  case h_4 => obtain rfl := Host.Outcome.next.inj h; exact .refl s

theorem Path.failFreezeRead (s : State) : Path s s.failFreezeRead := by
  unfold State.failFreezeRead
  split
  case h_1 f hop hf =>
    have hdrop := (Path.freeMemory s).trans (Move.path (.dropFreeze f.slot))
    have hself : (s.freeMemory.cc.freeze.any fun x => x.slot == f.slot) = true := by
      rw [State.cc_freeMemory, hf]; simp
    rw [if_pos hself] at hdrop
    exact ((hdrop.trans (.takeUpFreeze _)).books (.report _ _)).books (.arbitrate _)
  case h_2 | h_3 => exact .discardFreezeRead s
  case h_4 => exact .refl s

theorem Path.startSweep (s : State) : Path s s.startSweep := by
  unfold State.startSweep
  split
  case h_1 n hn =>
    refine Path.books (Move.path (.setSweep _ (Or.inl ?_))) (.arbitrate _)
    unfold State.sweepStartable at hn
    split at hn
    case h_1 m rest _ hq =>
      split at hn
      · obtain rfl := Option.some.inj hn; rw [hq]; rfl
      · exact absurd hn nofun
    case h_2 => exact absurd hn nofun
  case h_2 => exact .refl s

theorem Path.countBurst (s : State) (w : Sweep) (hw : s.sw.sweep = some w) : Path s (s.countBurst w) := by
  unfold State.countBurst
  split
  · exact (Move.path (.endSweep w hw)).books (.latch _ _)
  · exact Move.path (.setSweep _ (Or.inr ⟨w, hw, rfl⟩))

theorem Path.burstDone {s t : State} (h : s.burstDone = .next t) : Path s t := by
  have hfree := Path.freeMemory s
  unfold State.burstDone at h
  split at h
  case h_1 w _ hw => exact ((hfree.trans (.countBurst _ w hw)).books (.arbitrate _)).trans (.performWrite h)
  case h_2 | h_3 => exact (hfree.books (.arbitrate _)).trans (.performWrite h)
  case h_4 => obtain rfl := Host.Outcome.next.inj h; exact .refl s

theorem Path.burstError (s : State) : Path s s.burstError := by
  have hfree := Path.freeMemory s
  unfold State.burstError
  split
  case h_1 w _ hw =>
    refine Path.books (Path.books (Path.trans ?_ (.spoil _ _ 64)) (.report _ _)) (.arbitrate _)
    exact hfree.trans (Move.path (.setSweep _ (Or.inr ⟨w, hw, rfl⟩)))
  case h_2 | h_3 => exact (hfree.trans (.spoil _ _ 64)).books (.arbitrate _)
  case h_4 => exact .refl s

/-! The Fault Unit (R141 to R159). -/

/-- A verdict holds slots in holdable stages alone (R147). -/
theorem State.holdable_of_verdict {s : State} {r : Report} (h : (s.verdict r).holds = true) :
    (s.slot r.slot).stage.holdable = true := by
  unfold State.verdict at h
  simp only at h
  split at h
  case h_1 o ho =>
    split at h
    · exact absurd h Bool.false_ne_true
    · unfold readbackVerdict at h
      cases o
      case exhausted | holdProgrammed => exact h
      all_goals exact absurd h Bool.false_ne_true
  case h_2 =>
    split at h
    · exact absurd h Bool.false_ne_true
    · unfold programmedVerdict at h
      split at h
      case h_4 | h_5 => exact h
      all_goals exact absurd h Bool.false_ne_true

theorem Path.applyVerdict (s : State) (r : Report) (v : Verdict)
    (h : v.holds = true → (s.slot r.slot).stage.holdable = true) : Path s (s.applyVerdict r v) := by
  have hhold : Path s (if v.holds then s.hold r.slot else s) := by
    split
    case isTrue hv => exact .hold s r.slot (h hv)
    case isFalse => exact .refl s
  unfold State.applyVerdict
  simp only
  split
  · exact hhold.trans (.modSlot _ _ _ (SlotRec.serves_resetMatch _ _ _))
  · exact hhold

theorem Path.enterRecord (s : State) (r : Report) (v : Verdict) : Path s (s.enterRecord r v) := by
  unfold State.enterRecord State.logFull Config.logPlaces
  split
  case isTrue hfull =>
    refine Move.path (.lose fun h => ?_)
    simp [h] at hfull
  case isFalse hroom =>
    exact (Move.path (.record (s.recordOf r v) rfl (by simpa using hroom))).trans
      (.modSlot _ _ _ (SlotRec.serves_lastFault _ _ _))

theorem Path.takeReport (s : State) : Path s s.takeReport := by
  unfold State.takeReport
  split
  case h_1 r rest hr =>
    have htaken : Path s { s with fu := { s.fu with reports := rest } } := SameBooks.path (by constructor <;> rfl)
    have hpath := (((htaken.trans (.applyVerdict _ r (s.verdict r) State.holdable_of_verdict)).trans
      (.enterRecord _ r (s.verdict r))).books (.blockIf _ (s.verdict r).blocks)).books
      (.latchFor _ (s.verdict r) r.kind s.logFull (s.fu.bridge == .guarding))
    simp only
    split
    · exact hpath.books (.arbitrate _)
    · exact hpath
  case h_2 => exact .refl s

/-! The timers and the timebase (R63, R114, R122, R185). -/

theorem SlotRec.serves_expiries (limit : Nat) (r : SlotRec) : r.Serves limit r.expireGuard.expireRetry := by
  constructor
  case retryTimer =>
    intro h
    by_cases hdue : r.retryTimer = some 0
    · rw [hdue]; exact Or.inl rfl
    · simpa [SlotRec.expireRetry, SlotRec.expireGuard, hdue] using Or.inl h
  case guardTimer =>
    intro h
    by_cases hdue : r.guardTimer = some 0
    · rw [hdue]; rfl
    · simpa [SlotRec.expireRetry, SlotRec.expireGuard, hdue] using h
  all_goals simp [SlotRec.expireGuard, SlotRec.expireRetry]

theorem SlotRec.serves_expireGuard (limit : Nat) (r : SlotRec) : r.Serves limit r.expireGuard := by
  have h := r.serves_expiries limit
  constructor
  case retryTimer => exact Or.inl
  case guardTimer => exact h.guardTimer
  all_goals simp [SlotRec.expireGuard]

theorem SlotRec.serves_expireRetry (limit : Nat) (r : SlotRec) : r.Serves limit r.expireRetry := by
  have h := r.serves_expiries limit
  constructor
  case retryTimer => exact h.retryTimer
  all_goals simp [SlotRec.expireRetry]

theorem SlotRec.serves_tick (limit : Nat) (r : SlotRec) : r.Serves limit r.tick := by
  constructor
  case retryTimer => intro h; exact Or.inl (by simpa [SlotRec.tick, tickTimer] using h)
  all_goals simp [SlotRec.tick, tickTimer]

theorem Path.expireLock (s : State) (l : Lock) : Path s (s.expireLock l) := (Path.filterLocks s _).books (.report _ _)

theorem Path.expireLocks (ls : List Lock) (s : State) : Path s (ls.foldl State.expireLock s) := by
  induction ls generalizing s with
  | nil => exact .refl s
  | cons l ls ih => exact (Path.expireLock s l).trans (ih _)

theorem Path.countTick (s : State) : Path s s.countTick := by
  refine (Path.mapSlots s SlotRec.tick (SlotRec.serves_tick _)).trans (Move.path (.locks _ ?_ ?_))
  · rw [List.map_map]; exact List.Sublist.refl _
  · rw [List.map_map]; exact List.Sublist.refl _

theorem Path.expireLockOn (s : State) (n : Slot) : Path s (s.expireLockOn n) := by
  unfold State.expireLockOn
  split
  · split
    · exact .expireLock s _
    · exact .refl s
  · exact .refl s

theorem Path.idleUp (s : State) :
    Path s (match s.su.handed with
      | some w => { s with su := { s.su with handed := none } }.takeWrite w
      | none => if s.expiryDue then s.expireAll else s.countTick) := by
  split
  · exact (SameBooks.unhand s).path.trans (.takeWrite _ _)
  · split
    · exact (Path.mapSlots s _ (SlotRec.serves_expiries _)).trans (.expireLocks _ _)
    · exact .countTick s

/-! The management line (R163 to R183). -/

theorem Path.intake (s : State) (i : Item) (w : WordIn) (act : State → Word → State)
    (h : ∀ t v, Path t (act t v)) : Path s (s.intake i w act) := by
  unfold State.intake
  simp only
  split
  · exact (SameBooks.of_mi s _).path.trans (h _ _)
  · exact (SameBooks.of_mi s _).path

theorem Path.portalRow (s : State) (k : PortalWrite) (w : WordIn) (act : State → Word → State)
    (h : ∀ t v, Path t (act t v)) : Path s (s.portalRow k w act) := by
  unfold State.portalRow
  split
  · exact .intake s _ w act h
  · exact .refl s

theorem Path.readRow (s : State) (i : Item) (p : ReadPart) (width : Nat) (choose : State → Sending × List Byte)
    (mine : Sending → Bool) (finish : State → Sending → State) (h : ∀ t x, Path t (finish t x)) :
    Path s (s.readRow i p width choose mine finish) := by
  unfold State.readRow
  simp only
  split
  · split
    · exact .refl s
    · exact (SameBooks.of_mi s _).path
  · split
    · split
      · exact (h s _).books (.of_mi _ _)
      · exact .refl s
    · exact .refl s
  · split
    · exact .refl s
    · exact ((SameBooks.of_mi s _).path.trans (h _ _)).books (.of_mi _ _)

theorem Path.commandRow (s : State) (code : Word) (w : WordIn) (act : State → State) (h : ∀ t, Path t (act t)) :
    Path s (s.commandRow code w act) := by
  unfold State.commandRow
  simp only
  split
  · split
    · exact (SameBooks.of_mi s _).path.trans (h _)
    · split
      · exact .refl s
      · exact (SameBooks.of_mi s _).path
  · exact (SameBooks.of_mi s _).path

theorem Path.setPortalControl (s : State) (v : Word) : Path s (s.setPortalControl v) := by
  unfold State.setPortalControl
  split
  · split
    · exact (SameBooks.of_mi s _).path
    · exact (SameBooks.setStatus s _).path
  · exact (SameBooks.setStatus s _).path

theorem Path.setPortalAddress (s : State) (v : Word) : Path s (s.setPortalAddress v) := by
  unfold State.setPortalAddress
  split
  · exact (SameBooks.of_mi s _).path
  · exact (SameBooks.setStatus s _).path

theorem Path.writeDescriptor (s : State) (v : Word) : Path s (s.writeDescriptor v) := by
  unfold State.writeDescriptor
  simp only
  generalize descriptorSlot s.mi.addr = n
  generalize s.mi.addr % 16 = k
  split
  case h_1 hst => exact (Move.path (.store n k v hst)).books (.takenWrite _)
  case h_2 hst =>
    have hvacant : ((s.vacate n).slot n).stage = .vacant := by rw [State.slot_vacate, if_pos rfl]; rfl
    have hcomm : (s.modSlot n fun r => r.store k v).vacate n = (s.vacate n).modSlot n fun r => r.store k v := by
      rw [State.vacate_eq, State.modSlot_eq, State.modSlot_eq, State.slot_vacate, if_pos rfl, State.vacate_eq]
      apply State.eq_of_fields <;> try rfl
      show (s.slots.set n.val _).set n.val _ = (s.slots.set n.val _).set n.val _
      rw [Vector.set_set, Vector.set_set, State.slot_of_set _ s.slots n _ rfl]
      rfl
    rw [hcomm]
    exact ((Move.path (.empty n hst)).trans (Move.path (.store n k v hvacant))).books (.takenWrite _)
  all_goals exact (SameBooks.setStatus s _).path

theorem Path.loadDescriptor (s : State) (v : Word) : Path s (s.loadDescriptor v) := by
  unfold State.loadDescriptor
  simp only
  generalize descriptorSlot s.mi.addr = n
  split
  · exact (SameBooks.setStatus s _).path
  · split
    case h_1 hres =>
      split
      case isTrue hst =>
        refine Path.books (.changeStage ?_ (by simp [hst]) rfl) (.takenWrite _)
        have hpass : (s.slot n).fieldsInRange n = true ∧ s.pastMemory n = false ∧ s.overlaps n = false := by
          unfold State.loadResult at hres
          simp only [hst] at hres
          split at hres
          · exact absurd hres nofun
          · split at hres
            · exact absurd hres nofun
            · split at hres
              · exact absurd hres nofun
              · simp_all
        exact
          { occupied := nofun
            held := nofun
            verified := nofun
            retry := by simp [hst]
            links := by simp [SlotRec.inService, hst]
            key := by simp [SlotRec.mayHoldKey, hst, Stage.keyed]
            region := Or.inr hpass
            offVerified := by simp [hst]
            offFreezeList := by simp [hst]
            sweeping := by simp [hst] }
      case isFalse => exact (SameBooks.takenWrite s).path
    all_goals exact (SameBooks.setStatus s _).path

theorem Path.writeRole (s : State) (v : Word) : Path s (s.writeRole v) := by
  unfold State.writeRole
  split
  · exact (SameBooks.path (by constructor <;> rfl)).books (.takenWrite _)
  · exact (SameBooks.setStatus s _).path

theorem Path.writeResponse (s : State) (v : Word) : Path s (s.writeResponse v) := by
  unfold State.writeResponse
  split
  · split
    · exact (SameBooks.path (by constructor <;> rfl)).books (.takenWrite _)
    · exact (SameBooks.setStatus s _).path
  · exact (SameBooks.setStatus s _).path

theorem Path.writeTiming (s : State) (v : Word) : Path s (s.writeTiming v) := by
  unfold State.writeTiming
  split
  case isTrue h => exact (Move.path (.timing s.mi.addr v h)).books (.takenWrite _)
  case isFalse => exact (SameBooks.setStatus s _).path

theorem Path.refuseWord (s : State) (v : Word) : Path s (s.refuseWord v) := by
  unfold State.refuseWord
  split <;> exact (SameBooks.setStatus s _).path

theorem Path.readOnlyWrite (s : State) (w : ReadOnlyWrite) : Path s (s.readOnlyWrite w) := by
  cases w with
  | portalWord v => exact .portalRow s .refused v _ Path.refuseWord
  | dataByte b =>
    unfold State.readOnlyWrite
    simp only
    split
    · exact (SameBooks.of_mi s _).path
    · exact .refl s

theorem Path.finishPortalWord (s : State) (x : Sending) : Path s (s.finishPortalWord x) := by
  unfold State.finishPortalWord
  split
  · exact (SameBooks.setStatus s _).path
  · split
    · exact (SameBooks.completedRead s _).path
    · exact (SameBooks.setStatus s _).path

theorem Path.finishLogWord (s : State) (x : Sending) : Path s (s.finishLogWord x) := by
  unfold State.finishLogWord
  split
  · exact (SameBooks.setStatus s _).path
  · split
    · refine Path.books ?_ (.completedRead _ _)
      split
      · exact Move.path .popLog
      · exact .refl s
    · exact (SameBooks.completedRead s _).path
    all_goals exact .refl s

theorem Path.finishVerifiedWord (s : State) (x : Sending) : Path s (s.finishVerifiedWord x) := by
  unfold State.finishVerifiedWord
  split
  · exact (SameBooks.setStatus s _).path
  · split
    · refine Path.books ?_ (.completedRead _ _)
      split
      · exact .refl s
      · exact Move.path (.leaveVerified _)
    · exact (SameBooks.completedRead s _).path
    all_goals exact .refl s

theorem Path.unlatchSent (s : State) (x : Sending) : Path s (s.unlatchSent x) := by
  unfold State.unlatchSent
  split
  · exact SameBooks.path (by constructor <;> rfl)
  all_goals exact .refl s

theorem Path.blockBridge (s : State) : Path s s.blockBridge :=
  (SameBooks.path (by constructor <;> rfl)).books (.latchIf _ _ _)

theorem Path.lineStart (s : State) (address : BitVec 7) (x : LineStart) : Path s (s.lineStart address x) := by
  unfold State.lineStart State.addressByte State.firstByte
  split
  case h_1 | h_2 =>
    split <;> exact (SameBooks.of_mi s _).path
  case h_3 =>
    split
    · split
      · exact (SameBooks.of_mi s _).path
      · exact .refl s
    · exact .refl s

/-! Every command. -/

theorem Path.whenUp (s : State) (f : State → State) (h : ∀ t, Path t (f t)) : Path s (s.whenUp f) := by
  unfold State.whenUp
  split
  · exact (SameBooks.quiet s).path
  · exact (SameBooks.quiet s).path.trans (h _)

theorem Path.whenUpPerform {s t : State} (f : State → Host.Outcome State Fault Refusal)
    (h : ∀ u v, f u = .next v → Path u v) (ht : s.whenUpPerform f = .next t) : Path s t := by
  unfold State.whenUpPerform at ht
  split at ht
  · obtain rfl := Host.Outcome.next.inj ht; exact (SameBooks.quiet s).path
  · exact (SameBooks.quiet s).path.trans (h _ _ ht)

/-- What a command other than the two of RESET_N does is a path of moves. -/
theorem Path.exec {c : Instr} {s t : State} (hc : c ≠ .resetNAssertion) (hc' : ∀ adr msize, c ≠ .resetNRelease adr msize)
    (h : exec c s = .next t) : Path s t := by
  have up : ∀ f : State → State, (∀ u, Path u (f u)) → (.next (s.whenUp f) : Host.Outcome State Fault Refusal) = .next t →
      Path s t := fun f hf ht => Host.Outcome.next.inj ht ▸ .whenUp s f hf
  cases c
  case resetNAssertion => exact absurd rfl hc
  case resetNRelease adr msize => exact absurd rfl (hc' adr msize)
  case stagingBusAccess a d => exact up _ (fun u => .arrival u a d) h
  case openCard | frameDone | freeze | retire | reopen | resume | discard =>
    exact up _ (fun u => .requestRow u _ _ _ _) h
  case queueHeadGrant => exact up _ Path.grantQueueHead h
  case queuedReadDone => exact .whenUpPerform _ (fun _ _ => Path.readDone) h
  case queuedReadError => exact up _ Path.readError h
  case queuedWriteDone => exact .whenUpPerform _ (fun _ _ => Path.writeDone) h
  case queuedWriteError => exact up _ Path.writeError h
  case freezeReadGrant => exact up _ Path.grantFreezeRead h
  case freezeReadReturn => exact .whenUpPerform _ (fun _ _ => Path.returnFreezeRead) h
  case freezeReadError => exact up _ Path.failFreezeRead h
  case sweepStart => exact up _ Path.startSweep h
  case sweepBurstGrant => exact up _ Path.grantBurst h
  case sweepBurstDone => exact .whenUpPerform _ (fun _ _ => Path.burstDone) h
  case sweepBurstError => exact up _ Path.burstError h
  case guardTimerExpiry n => exact up _ (fun u => .modSlot u n _ (SlotRec.serves_expireGuard _ _)) h
  case lockTimerExpiry n => exact up _ (fun u => .expireLockOn u n) h
  case retryTimerExpiry n => exact up _ (fun u => .modSlot u n _ (SlotRec.serves_expireRetry _ _)) h
  case readbackSequenceTaken => exact up _ Path.takeSequence h
  case faultReportTaken => exact up _ Path.takeReport h
  case itemByte b => exact up _ (fun u => (SameBooks.of_mi u _).path) h
  case portalControl w => exact up _ (fun u => .intake u _ w _ Path.setPortalControl) h
  case portalAddressWrite w => exact up _ (fun u => .portalRow u _ w _ Path.setPortalAddress) h
  case descriptorWrite w => exact up _ (fun u => .portalRow u _ w _ Path.writeDescriptor) h
  case load w => exact up _ (fun u => .portalRow u _ w _ Path.loadDescriptor) h
  case agentRoleWrite w => exact up _ (fun u => .portalRow u _ w _ Path.writeRole) h
  case faultResponseWrite w => exact up _ (fun u => .portalRow u _ w _ Path.writeResponse) h
  case timingWrite w => exact up _ (fun u => .portalRow u _ w _ Path.writeTiming) h
  case custodyLogRead p =>
    refine up _ (fun u => ?_) h
    split
    · exact .readRow u _ p _ _ _ _ Path.finishLogWord
    · exact .refl u
  case verifiedQueueRead p =>
    refine up _ (fun u => ?_) h
    split
    · exact .readRow u _ p _ _ _ _ Path.finishVerifiedWord
    · exact .refl u
  case portalDataRead p =>
    refine up _ (fun u => ?_) h
    split
    · exact .readRow u _ p _ _ _ _ Path.finishPortalWord
    · exact .refl u
  case readOnly w => exact up _ (fun u => .readOnlyWrite u w) h
  case alertCause p => exact up _ (fun u => .readRow u _ p _ _ _ _ Path.unlatchSent) h
  case alertEnable w => exact up _ (fun u => .intake u _ w _ fun _ _ => SameBooks.path (by constructor <;> rfl)) h
  case block w => exact up _ (fun u => .commandRow u _ w _ Path.blockBridge) h
  case unblock w => exact up _ (fun u => .commandRow u _ w _ fun _ => SameBooks.path (by constructor <;> rfl)) h
  case custodyReset w => exact up _ (fun u => .commandRow u _ w _ fun _ => Move.path .custodyReset) h
  case clearLog w => exact up _ (fun u => .commandRow u _ w _ fun _ => Move.path .emptyLog) h
  case targetAddressByte address x => exact up _ (fun u => .lineStart u address x) h
  case transactionEnd => exact up _ (fun u => (SameBooks.of_mi u _).path) h

end Sys2Proof.Machine
end

section
/-! SUPPORT. Every step keeps the laws: the moves keep them, and so do the two edges of RESET_N (O52 to O60). -/

namespace Sys2Proof.Machine

/-! What a step can do. -/

/-- While RESET_N is low no command but the two of RESET_N does anything (R185). -/
theorem exec_of_reset (c : Instr) (s : State) (hlow : s.pins.resetLow = true) (hassert : c ≠ .resetNAssertion)
    (hrelease : ∀ adr msize, c ≠ .resetNRelease adr msize) : exec c s = .next { s with out := BusOut.quiet } := by
  cases c
  case resetNAssertion => exact absurd rfl hassert
  case resetNRelease adr msize => exact absurd rfl (hrelease adr msize)
  case queuedReadDone | queuedWriteDone | freezeReadReturn | sweepBurstDone =>
    exact s.whenUpPerform_of_reset hlow _
  all_goals exact congrArg _ (s.whenUp_of_reset hlow _)

/-- A step is a path of moves from a bridge out of reset, or changes nothing that a law reads, or is one of the two edges of RESET_N. -/
theorem step_cases {s t : State} (h : step s = .next t) :
    (s.pins.resetLow = false ∧ Path s t) ∨ SameBooks s t ∨
      (∃ rest, t = ({ s with pending := rest } : State).cutOff.assertReset) ∨
      (s.pins.resetLow = true ∧
        ∃ adr msize, SameBooks { s with pins := { resetLow := false, adr := adr, msize := msize } } t) := by
  have hpop : ∀ rest, SameBooks s { s with pending := rest } := fun rest => by constructor <;> rfl
  unfold step at h
  split at h
  case h_2 hp =>
    obtain rfl := Host.Outcome.next.inj h
    unfold State.idle State.whenUp
    rcases hlow : s.pins.resetLow
    · exact Or.inl ⟨rfl, (SameBooks.quiet s).path.trans (.idleUp _)⟩
    · exact Or.inr (Or.inl (.quiet s))
  case h_1 c rest hp =>
    by_cases hassert : c = .resetNAssertion
    · subst hassert
      exact Or.inr (Or.inr (Or.inl ⟨rest, (Host.Outcome.next.inj h).symm⟩))
    by_cases hrelease : ∃ adr msize, c = .resetNRelease adr msize
    · obtain ⟨adr, msize, rfl⟩ := hrelease
      obtain rfl := Host.Outcome.next.inj h
      rcases hlow : s.pins.resetLow
      · rw [if_neg (by simp)]
        exact Or.inr (Or.inl ((hpop rest).trans (.quiet _)))
      · rw [if_pos rfl]
        exact Or.inr (Or.inr (Or.inr ⟨rfl, adr, msize, by constructor <;> rfl⟩))
    · have hother : ∀ adr msize, c ≠ .resetNRelease adr msize := fun a m hc => hrelease ⟨a, m, hc⟩
      rcases hlow : s.pins.resetLow
      · exact Or.inl ⟨rfl, (hpop rest).path.trans (.exec hassert hother h)⟩
      · obtain rfl := Host.Outcome.next.inj ((exec_of_reset c { s with pending := rest } hlow hassert hother).symm.trans h)
        exact Or.inr (Or.inl ((hpop rest).trans (.quiet _)))

/-! The values after RESET_N (R17, R139, R160). -/

/-- Everything that a law reads, but the pins and staging memory, is as after RESET_N. -/
structure State.Blank (s : State) : Prop where
  slots : s.slots = Vector.replicate 64 SlotRec.reset
  locks : s.acc.locks = []
  verified : s.su.verified = []
  timing : s.su.timing = State.reset.su.timing
  directory : s.directory = []
  freezeList : s.cc.freezeList = []
  freeze : s.cc.freeze = none
  queue : s.mp.queue = []
  op : s.mp.op = none
  sweepWait : s.mp.sweepWait = 0
  sweepQueue : s.sw.queue = []
  sweep : s.sw.sweep = none
  log : s.fu.log = []
  overflow : s.fu.overflow = false

theorem State.blank_reset : State.reset.Blank := by constructor <;> rfl

theorem State.blank_assertReset (s : State) : s.assertReset.Blank := by constructor <;> rfl

theorem State.Blank.slot {s : State} (h : s.Blank) (n : Slot) : s.slot n = SlotRec.reset := by
  unfold State.slot
  simp [h.slots]

/-- A state as after RESET_N obeys every law. -/
theorem State.Blank.lawful {s : State} (h : s.Blank) (hmem : s.mem.wf) : s.Lawful where
  memory := hmem
  queue := by
    refine ⟨by rw [h.queue]; exact Nat.zero_le _, by rw [h.sweepWait]; exact Nat.zero_le _, fun n => ?_⟩
    rw [h.slot]; exact Nat.zero_le _
  log := by unfold State.logLaw; rw [h.log, h.overflow]; exact ⟨Nat.zero_le _, rfl, fun _ => rfl⟩
  lock := by unfold State.lockLaw; rw [h.locks]; exact ⟨List.nodup_nil, List.nodup_nil, nofun⟩
  held n := by rw [h.slot]; exact ⟨nofun, fun _ => rfl⟩
  range := ⟨fun n => by rw [h.slot]; decide, by rw [h.timing]; decide⟩
  verified n := by rw [h.slot]; exact ⟨nofun, nofun⟩
  list := by
    unfold State.listLaw
    rw [h.verified, h.freezeList, h.freeze, h.sweepQueue, h.sweep]
    refine ⟨⟨List.nodup_nil, nofun⟩, ⟨List.nodup_nil, nofun⟩, ⟨List.nodup_nil, fun n => ?_⟩, nofun, nofun⟩
    rw [h.slot]; exact ⟨nofun, nofun⟩
  link := by
    refine ⟨fun m n => ?_, fun n hn => ?_⟩
    · rw [h.slot, h.slot]; exact ⟨nofun, nofun⟩
    · rw [h.slot] at hn; exact absurd hn (by decide)
  key := by
    unfold State.keyLaw
    rw [h.directory]
    refine ⟨List.nodup_nil, List.nodup_nil, nofun, fun n => ?_⟩
    rw [h.slot]; exact ⟨⟨nofun, nofun⟩, nofun⟩
  region n hn := absurd (by rw [h.slot]; rfl) hn
  reset _ := ⟨fun n => by rw [h.slot]; rfl, h.queue, h.op⟩
  operation := by unfold State.operationLaw; rw [h.queue, h.op]; exact ⟨nofun, trivial⟩

/-- The state that the assertion of RESET_N leaves obeys every law, if staging memory does. -/
theorem State.lawful_assertReset {s : State} (hmem : s.memoryLaw) : s.cutOff.assertReset.Lawful := by
  refine s.cutOff.blank_assertReset.lawful ?_
  show s.cutOff.mem.wf
  unfold State.cutOff
  split
  · split
    · exact State.wf_tear _ _ _ hmem
    · exact hmem
  · exact State.wf_tear _ _ _ hmem
  · exact hmem

/-- A law but that of staging memory holds after the assertion of RESET_N: staging memory bears on no other. -/
theorem State.lawful_assertReset_of_nil (s : State) : ({ s.assertReset with mem := [] } : State).Lawful :=
  State.Blank.lawful (by constructor <;> rfl) Memory.wf_nil

/-! One induction for all the laws. -/

/-- A predicate that moves keep, that holds after the assertion of RESET_N and that its release keeps is kept by every step. -/
theorem step_keeps (P : State → Prop) (hmove : ∀ s t, Move s t → P s → P t)
    (hassert : ∀ s : State, P s → P s.cutOff.assertReset)
    (hrelease : ∀ (s : State) (adr msize : BitVec 2), s.pins.resetLow = true → P s →
      P { s with pins := { resetLow := false, adr := adr, msize := msize } })
    {s t : State} (hs : P s) (h : step s = .next t) : P t := by
  rcases step_cases h with ⟨-, hpath⟩ | hbooks | ⟨rest, rfl⟩ | ⟨hlow, adr, msize, hbooks⟩
  · exact hpath.keeps hmove hs
  · exact hmove _ _ (.books hbooks) hs
  · exact hassert _ (hmove s _ (.books (by constructor <;> rfl)) hs)
  · exact hmove _ _ (.books hbooks) (hrelease s adr msize hlow hs)

/-- Settles O52: the values after RESET_N, law by law. -/
theorem resetIsLawful : Obligations.ResetIsLawful := State.blank_reset.lawful State.wf_reset

/-- Settles O53: the moves write to staging memory, and the writes keep its form. -/
theorem stepsKeepTheMemory : Obligations.StepsKeepTheMemory := fun _ _ =>
  step_keeps State.memoryLaw (fun _ _ h => h.keeps_memoryLaw) (fun _ h => (State.lawful_assertReset h).memory)
    fun _ _ _ _ h => h

/-- Settles O54: both laws, move by move. -/
theorem stepsKeepTheQueueAndTheLog : Obligations.StepsKeepTheQueueAndTheLog :=
  ⟨fun _ _ => step_keeps State.queueLaw (fun _ _ h => h.keeps_queueLaw)
      (fun s _ => s.cutOff.lawful_assertReset_of_nil.queue) fun _ _ _ _ h => h,
    fun _ _ => step_keeps State.logLaw (fun _ _ h => h.keeps_logLaw)
      (fun s _ => s.cutOff.lawful_assertReset_of_nil.log) fun _ _ _ _ h => h⟩

/-- Settles O55, move by move. -/
theorem stepsKeepTheLocks : Obligations.StepsKeepTheLocks := fun _ _ =>
  step_keeps State.lockLaw (fun _ _ h => h.keeps_lockLaw) (fun s _ => s.cutOff.lawful_assertReset_of_nil.lock)
    fun _ _ _ _ h => h

/-- Settles O56: the three laws of the records, by what a move makes of one record. -/
theorem stepsKeepTheSlotRecords : Obligations.StepsKeepTheSlotRecords :=
  ⟨fun _ _ => step_keeps State.rangeLaw (fun _ _ h => h.keeps_rangeLaw)
      (fun s _ => s.cutOff.lawful_assertReset_of_nil.range) fun _ _ _ _ h => h,
    fun _ _ => step_keeps State.heldLaw (fun _ _ h => h.keeps_heldLaw)
      (fun s _ => s.cutOff.lawful_assertReset_of_nil.held) fun _ _ _ _ h => h,
    fun _ _ => step_keeps State.verifiedLaw (fun _ _ h => h.keeps_verifiedLaw)
      (fun s _ => s.cutOff.lawful_assertReset_of_nil.verified) fun _ _ _ _ h => h⟩

/-- Settles O57, move by move. -/
theorem stepsKeepTheLists : Obligations.StepsKeepTheLists := fun _ _ =>
  step_keeps State.listLaw (fun _ _ h => h.keeps_listLaw) (fun s _ => s.cutOff.lawful_assertReset_of_nil.list)
    fun _ _ _ _ h => h

/-- Settles O58: the links together with the lists, which say that the slot whose sweep ends is in SWEEPING. -/
theorem stepsKeepTheLinks : Obligations.StepsKeepTheLinks := fun _ _ hlink hlist h =>
  (step_keeps (fun s => s.linkLaw ∧ s.listLaw)
    (fun _ _ h ⟨hlink, hlist⟩ => ⟨h.keeps_linkLaw hlink hlist, h.keeps_listLaw hlist⟩)
    (fun s _ => ⟨s.cutOff.lawful_assertReset_of_nil.link, s.cutOff.lawful_assertReset_of_nil.list⟩)
    (fun _ _ _ _ h => h) ⟨hlink, hlist⟩ h).1

/-- Settles O59: the keys together with the lists. -/
theorem stepsKeepTheKeys : Obligations.StepsKeepTheKeys := fun _ _ hkey hlist h =>
  (step_keeps (fun s => s.keyLaw ∧ s.listLaw)
    (fun _ _ h ⟨hkey, hlist⟩ => ⟨h.keeps_keyLaw hkey hlist, h.keeps_listLaw hlist⟩)
    (fun s _ => ⟨s.cutOff.lawful_assertReset_of_nil.key, s.cutOff.lawful_assertReset_of_nil.list⟩)
    (fun _ _ _ _ h => h) ⟨hkey, hlist⟩ h).1

/-! Regions and operations (O60). -/

/-- The laws that the regions and the operations of the memory rest on. -/
structure State.RegionBooks (s : State) : Prop where
  region : s.regionLaw
  list : s.listLaw
  reset : s.resetLaw

/-- While RESET_N is low, the fitted memory may change: no slot has a region in it. -/
theorem State.RegionBooks.release {s : State} (h : s.RegionBooks) (adr msize : BitVec 2) (hlow : s.pins.resetLow = true) :
    ({ s with pins := { resetLow := false, adr := adr, msize := msize } } : State).RegionBooks where
  region n hn := absurd ((h.reset hlow).1 n) hn
  list := h.list
  reset := nofun

/-- RESET_N's hold on the slots, queue and operation is kept where RESET_N is high or nothing changes. -/
theorem State.resetLaw_of_books {s t : State} (h : SameBooks s t) (hs : s.resetLaw) : t.resetLaw := by
  intro hlow
  rw [h.pins] at hlow
  obtain ⟨hslots, hqueue, hop⟩ := hs hlow
  exact ⟨fun n => by rw [h.slot]; exact hslots n, h.queue.trans hqueue, h.op.trans hop⟩

/-- A path keeps the regions, with the operations or not. -/
theorem Path.keeps_regions {s t : State} (h : Path s t) (hregion : s.regionLaw) (hlist : s.listLaw) :
    t.regionLaw ∧ t.listLaw :=
  h.keeps (P := fun s => s.regionLaw ∧ s.listLaw)
    (fun _ _ h ⟨hregion, hlist⟩ => ⟨h.keeps_regionLaw hregion hlist, h.keeps_listLaw hlist⟩) ⟨hregion, hlist⟩

theorem step_keeps_regions {s t : State} (hs : s.RegionBooks) (h : step s = .next t) : t.RegionBooks := by
  have books : ∀ {u v : State}, SameBooks u v → u.RegionBooks → v.RegionBooks := fun h hu =>
    ⟨(Move.books h).keeps_regionLaw hu.region hu.list, (Move.books h).keeps_listLaw hu.list,
      State.resetLaw_of_books h hu.reset⟩
  rcases step_cases h with ⟨hup, hpath⟩ | hbooks | ⟨rest, rfl⟩ | ⟨hlow, adr, msize, hbooks⟩
  · obtain ⟨hregion, hlist⟩ := hpath.keeps_regions hs.region hs.list
    refine ⟨hregion, hlist, fun hlow => ?_⟩
    rw [hpath.pins_eq, hup] at hlow
    exact absurd hlow (by decide)
  · exact books hbooks hs
  · have hblank := State.lawful_assertReset_of_nil (State.cutOff { s with pending := rest })
    exact ⟨hblank.region, hblank.list, hblank.reset⟩
  · exact books hbooks (hs.release adr msize hlow)

theorem step_keeps_operations {s t : State} (hop : s.operationLaw) (hs : s.RegionBooks) (h : step s = .next t) :
    t.operationLaw := by
  rcases step_cases h with ⟨-, hpath⟩ | hbooks | ⟨rest, rfl⟩ | ⟨hlow, adr, msize, hbooks⟩
  · exact (hpath.keeps (P := fun s => s.operationLaw ∧ s.regionLaw ∧ s.listLaw)
      (fun _ _ h ⟨hop, hregion, hlist⟩ =>
        ⟨h.keeps_operationLaw hop hregion hlist, h.keeps_regionLaw hregion hlist, h.keeps_listLaw hlist⟩)
      ⟨hop, hs.region, hs.list⟩).1
  · exact State.operationLaw_of_port hop hbooks.queue hbooks.op hbooks.pins
  · exact (State.lawful_assertReset_of_nil (State.cutOff { s with pending := rest })).operation
  · obtain ⟨-, hqueue, hnone⟩ := hs.reset hlow
    unfold State.operationLaw
    rw [hbooks.queue, hbooks.op, hqueue, hnone]
    exact ⟨nofun, trivial⟩

/-- Memory performs what lies within the fitted memory. -/
theorem State.performWrite_of_inMemory {s : State} {pa : Nat} {bytes : List Byte} (h : s.inMemory pa bytes.length = true) :
    ∃ t, s.performWrite pa bytes = .next t := by
  unfold State.performWrite
  exact ⟨_, if_pos h⟩

theorem State.performRead_of_inMemory {s : State} {pa size : Nat} (k : List Byte → State) (h : s.inMemory pa size = true) :
    ∃ t, s.performRead pa size k = .next t := by
  unfold State.performRead
  exact ⟨_, if_pos h⟩

theorem State.entry_of_headInFlight {s : State} (hs : s.operationLaw) {wr : Bool} {e : QEntry}
    (h : s.headInFlight wr = some e) :
    s.inMemory e.pa e.size = true ∧ (e.wr = true → e.data.length = e.size) ∧ e.wr = wr := by
  obtain ⟨rest, -, hq, hwr⟩ := State.queue_of_headInFlight h
  obtain ⟨hin, hdata⟩ := hs.1 e (by rw [hq]; exact List.mem_cons_self)
  exact ⟨hin, hdata, hwr⟩

theorem State.readDone_next {s : State} (hs : s.operationLaw) : ∃ t, s.readDone = .next t := by
  unfold State.readDone
  split
  case h_1 e he => exact State.performRead_of_inMemory _ (State.entry_of_headInFlight hs he).1
  case h_2 => exact ⟨s, rfl⟩

theorem State.writeDone_next {s : State} (hs : s.operationLaw) : ∃ t, s.writeDone = .next t := by
  unfold State.writeDone
  split
  case h_1 e he =>
    obtain ⟨hin, hdata, hwr⟩ := State.entry_of_headInFlight hs he
    refine State.performWrite_of_inMemory ?_
    rw [hdata hwr]
    exact hin
  case h_2 => exact ⟨s, rfl⟩

theorem State.returnFreezeRead_next {s : State} (hs : s.operationLaw) : ∃ t, s.returnFreezeRead = .next t := by
  obtain ⟨-, hop⟩ := (s.operationLaw_iff).mp hs
  unfold State.returnFreezeRead
  split
  case h_1 ho _ => rw [ho] at hop; exact State.performRead_of_inMemory _ hop
  all_goals exact ⟨_, rfl⟩

theorem State.burstDone_next {s : State} (hs : s.operationLaw) : ∃ t, s.burstDone = .next t := by
  obtain ⟨-, hop⟩ := (s.operationLaw_iff).mp hs
  have hin : ∀ {u : State} {m j pa b}, s.mp.op = some (.sweepBurst m j pa b) → u.pins = s.pins →
      ∃ t, u.performWrite pa (zeroBytes 64) = .next t := by
    intro u m j pa b ho hpins
    rw [ho] at hop
    refine State.performWrite_of_inMemory ?_
    unfold State.inMemory
    rw [hpins]
    exact hop
  unfold State.burstDone
  split
  case h_1 w ho hw =>
    refine hin ho ?_
    exact (Path.countBurst { s with mp := { s.mp with op := none } } w hw).pins_eq
  case h_2 ho _ | h_3 ho => exact hin ho rfl
  case h_4 => exact ⟨s, rfl⟩

theorem State.whenUpPerform_next (s : State) (f : State → Host.Outcome State Fault Refusal)
    (h : ∃ t, f s.quiet = .next t) : ∃ t, s.whenUpPerform f = .next t := by
  unfold State.whenUpPerform
  split
  · exact ⟨_, rfl⟩
  · exact h

/-- No step stops: memory is asked for nothing beyond the fitted memory (R5). -/
theorem step_next {s : State} (hs : s.operationLaw) : ∃ t, step s = .next t := by
  unfold step
  split
  case h_2 => exact ⟨_, rfl⟩
  case h_1 c rest hp =>
    cases c
    case queuedReadDone => exact State.whenUpPerform_next _ _ (State.readDone_next hs)
    case queuedWriteDone => exact State.whenUpPerform_next _ _ (State.writeDone_next hs)
    case freezeReadReturn => exact State.whenUpPerform_next _ _ (State.returnFreezeRead_next hs)
    case sweepBurstDone => exact State.whenUpPerform_next _ _ (State.burstDone_next hs)
    all_goals exact ⟨_, rfl⟩

/-- Settles O60: regions and operations move by move; the four answers of memory lie within the fitted memory. -/
theorem stepsKeepTheRegions : Obligations.StepsKeepTheRegions := by
  refine ⟨fun s t hregion hlist hreset h => ?_, fun s t hop hregion hlist hreset h => ?_, fun s hs => step_next hs⟩
  · obtain ⟨hregion, -, hreset⟩ := step_keeps_regions ⟨hregion, hlist, hreset⟩ h
    exact ⟨hregion, hreset⟩
  · exact step_keeps_operations hop ⟨hregion, hlist, hreset⟩ h

end Sys2Proof.Machine
end

section
/-! SUPPORT. Staging-bus accesses: denials, waits, status-block reads, and what step 14 queues (chapters 2 and 7; O6 to O11). -/

namespace Sys2Proof.Machine

/-! The event of an access. -/

/-- The state in which an event of the staging bus takes place: the edge has answered nothing yet. -/
def State.atEdge (s : State) : State := { s with out := BusOut.quiet }

/-- An access with a size is what its deciding step makes of it. -/
theorem exec_access {s : State} {a : Access} (d : Bool) (hfree : s.busFree) (hn : a.noSize = false) {k : Nat}
    (hk : s.decidingStep a = k) : exec (.stagingBusAccess a d) s = .next (s.atEdge.applyStep a d k) := by
  obtain ⟨hup, hhanded⟩ := hfree
  have harrival : s.atEdge.arrival a d = s.atEdge.access a d := by
    unfold State.arrival
    rw [if_neg (show ¬s.atEdge.su.handed.isSome = true by simp [State.atEdge, hhanded])]
  have hstep : s.atEdge.decidingStep a = k := hk
  show Host.Outcome.next (s.whenUp fun s => s.arrival a d) = _
  rw [State.whenUp_of_up s hup]
  exact congrArg _ (harrival.trans (by rw [State.access_of_step _ _ _ hn, hstep]))

theorem State.atEdge_deny (s : State) (a : Access) :
    s.atEdge.deny a =
      { s with
        acc := s.locksAfter (a.wr && a.lclose) a.slot a.tag
        out := BusOut.respond .denied (if a.wr then [] else List.replicate a.size 0#8) } := s.deny_quiet a

theorem State.atEdge_wait (s : State) : s.atEdge.wait = { s with out := BusOut.respond .wait [] } := s.wait_quiet

theorem State.locksAfter_false (s : State) (n : Slot) (t : Tag) : s.locksAfter false n t = s.acc := rfl

/-- Where no agent holds the slot's lock, a close ends none. -/
theorem State.locksAfter_of_unlocked (s : State) (c : Bool) (n : Slot) (t : Tag) (h : ∀ l ∈ s.acc.locks, l.slot ≠ n) :
    s.locksAfter c n t = s.acc := by
  have hall : s.acc.locks.filter (fun l => !(l.slot == n && l.tag == t)) = s.acc.locks :=
    List.filter_eq_self.mpr fun l hl => by simp [h l hl]
  unfold State.locksAfter
  rw [hall]
  cases c <;> rfl

/-! Denials (R20, R23 to R32). -/

/-- Settles O6: no size comes before all of the steps; steps 1 and 8 deny. -/
theorem denialsWithoutRecord : Obligations.DenialsWithoutRecord := by
  intro s a d hfree
  refine ⟨fun hn => ?_, fun hn hk => ?_⟩
  · obtain ⟨hup, hhanded⟩ := hfree
    have harrival : s.atEdge.arrival a d = s.atEdge.answer .denied (if a.wr then [] else zeroBytes 64) := by
      unfold State.arrival State.access
      rw [if_neg (show ¬s.atEdge.su.handed.isSome = true by simp [State.atEdge, hhanded]), if_pos hn]
    show Host.Outcome.next (s.whenUp fun s => s.arrival a d) = _
    rw [State.whenUp_of_up s hup]
    exact congrArg _ harrival
  · rcases hk with hk | hk
    · exact (exec_access d hfree hn hk).trans (congrArg _ (s.atEdge_deny a))
    · exact (exec_access d hfree hn hk).trans (congrArg _ (s.atEdge_deny a))

/-- The report of a check is handed over with the denial (R42). -/
theorem State.atEdge_deny_report (s : State) (a : Access) (kind : FaultKind) (detail : FaultDetail) :
    (s.atEdge.deny a).report (s.atEdge.checkReport a kind detail) =
      { s with
        acc := s.locksAfter (a.wr && a.lclose) a.slot a.tag
        fu := s.fu.push (s.checkReport a kind detail)
        out := BusOut.respond .denied (if a.wr then [] else List.replicate a.size 0#8) } := by
  rw [State.atEdge_deny]; rfl

/-- Settles O7: step 2 denies and reports without the lock table, steps 4, 5 and 9 with it. -/
theorem denialsWithRecord : Obligations.DenialsWithRecord := by
  intro s a d kind detail hfree hn h
  have deny : ∀ k, s.decidingStep a = k → (kind != .stranger) = true →
      s.atEdge.applyStep a d k = (s.atEdge.deny a).report (s.atEdge.checkReport a kind detail) →
      exec (.stagingBusAccess a d) s = .next
        { s with
          acc := s.locksAfter (a.wr && a.lclose && kind != .stranger) a.slot a.tag
          fu := s.fu.push (s.checkReport a kind detail)
          out := BusOut.respond .denied (if a.wr then [] else List.replicate a.size 0#8) } := by
    intro k hk hkind hstep
    rw [exec_access d hfree hn hk, hstep, State.atEdge_deny_report, hkind, Bool.and_true]
  rcases h with ⟨hk, rfl, rfl⟩ | ⟨hk, rfl, rfl⟩ | ⟨hk, rfl, rfl⟩ | ⟨hk, rfl, k, hlt, hright, hfirst, rfl⟩
  · refine (exec_access d hfree hn hk).trans (congrArg _ ?_)
    show (s.atEdge.answer .denied (deniedData a)).report _ = _
    rw [show (FaultKind.stranger != .stranger) = false from rfl, Bool.and_false]
    rfl
  · exact deny 4 hk rfl rfl
  · exact deny 5 hk rfl rfl
  · refine deny 9 hk rfl ?_
    have hlack : s.atEdge.lacking a = some (areaOf (a.offset + k)) := State.lacking_eq s a k hlt hright hfirst
    show (s.atEdge.deny a).report (s.atEdge.checkReport a .permission (.area ((s.atEdge.lacking a).getD .frame))) = _
    rw [hlack]
    rfl

/-! Waits (R25, R28, R29, R33 to R37). -/

/-- The waits of step 12 come before its sequence check (R35, R36). -/
theorem State.orderStep_of_waits {s : State} {a : Access} (hk : s.decidingStep a = 12)
    (h : s.role a.tag = .punch ∨ (s.slot a.slot).punch = false ∨ (s.slot a.slot).print = false ∨
      (s.slot a.slot).retryTimer ≠ none) : (s.punchWaits a || s.readbackWaits a) = true := by
  have hcond : s.stepHolds a 12 = true := (s.stepHolds_iff a 12 (by decide)).mpr (State.condition_of_step hk (by decide))
  have hall : (s.punchWaits a || s.readbackWaits a || s.offSequence a) = true := hcond
  rw [Bool.or_eq_true] at hall ⊢
  rcases hall with hwait | hoff
  · exact Bool.or_eq_true_iff.mp hwait
  · have hwrite : s.isReadbackWrite a = true := (Bool.and_eq_true_iff.mp hoff).1
    refine Or.inr (Bool.and_eq_true_iff.mpr ⟨hwrite, ?_⟩)
    have hrole : s.role a.tag = .verifier := by
      simp only [State.isReadbackWrite, Bool.and_eq_true, beq_iff_eq] at hwrite
      exact hwrite.1.1
    rcases h with h | h | h | h
    · rw [hrole] at h; exact absurd h (by decide)
    · simp [h]
    · simp [h]
    · simp [Option.isSome_iff_ne_none.mpr h]

/-- Settles O8: each of these conditions makes its step wait. -/
theorem waitsChangeNothing : Obligations.WaitsChangeNothing := by
  intro s a d hfree hn h
  have wait : ∀ k, s.decidingStep a = k → s.atEdge.applyStep a d k = s.atEdge.wait →
      exec (.stagingBusAccess a d) s = .next { s with out := BusOut.respond .wait [] } := by
    intro k hk hstep
    rw [exec_access d hfree hn hk, hstep, State.atEdge_wait]
  rcases h with hk | hk | hk | ⟨hk, hsize, hvacant, hsweeping, hfull⟩ | ⟨hk, hother⟩ | ⟨hk, hwaits⟩
  · exact wait 7 hk rfl
  · exact wait 11 hk rfl
  · exact wait 13 hk rfl
  · refine wait 3 hk ?_
    have hst : ¬((s.atEdge.slot a.slot).stage = .vacant ∨ (s.atEdge.slot a.slot).stage = .sweeping) :=
      not_or.mpr ⟨hvacant, hsweeping⟩
    have hqueue : s.atEdge.queueFull = true := decide_eq_true hfull
    show s.atEdge.statusRead a = _
    unfold State.statusRead
    simp only [Nat.not_le.mpr hsize, hst, hqueue, if_true, if_false]
  · have hlocked : s.atEdge.lockedByOther a.slot a.tag = true := (s.lockedByOther_iff a.slot a.tag).mpr hother
    rcases hk with hk | hk
    · refine wait 6 hk ?_
      show s.atEdge.stageWrite a d = _
      unfold State.stageWrite
      rw [if_pos hlocked]
    · refine wait 10 hk ?_
      show s.atEdge.lockStep a = _
      unfold State.lockStep
      rw [if_pos hlocked]
  · refine wait 12 hk ?_
    show s.atEdge.orderStep a = _
    unfold State.orderStep
    rw [if_pos (show (s.atEdge.punchWaits a || s.atEdge.readbackWaits a) = true from State.orderStep_of_waits hk hwaits)]

/-! Status-block reads (R13 to R15, R25). -/

/-- The bits of a byte that flags make up. -/
theorem flagByte_bits (b0 b1 b2 b3 b4 b5 b6 : Bool) :
    let x := toByte (flagBit b0 0 + flagBit b1 1 + flagBit b2 2 + flagBit b3 3 + flagBit b4 4 + flagBit b5 5 + flagBit b6 6)
    x.getLsbD 0 = b0 ∧ x.getLsbD 1 = b1 ∧ x.getLsbD 2 = b2 ∧ x.getLsbD 3 = b3 ∧ x.getLsbD 4 = b4 ∧ x.getLsbD 5 = b5 ∧
      x.getLsbD 6 = b6 ∧ x.getLsbD 7 = false := by
  revert b0 b1 b2 b3 b4 b5 b6
  decide

/-- A word is its two bytes, high byte first. -/
theorem joinBytes_hiByte_loByte (w : Word) : joinBytes (hiByte w) (loByte w) = w := by
  rw [joinBytes_eq]
  apply BitVec.eq_of_toNat_eq
  have hw := w.isLt
  simp only [hiByte, loByte, BitVec.toNat_ofNat, BitVec.toNat_setWidth, BitVec.toNat_ushiftRight, Nat.shiftRight_eq_div_pow]
  omega

theorem State.lockOn_isSome (s : State) (n : Slot) : (s.lockOn n).isSome = s.acc.locks.any fun l => l.slot == n := by
  rw [State.lockOn, Bool.eq_iff_iff, List.find?_isSome, List.any_eq_true]

theorem State.statusByte_flags (s : State) (n : Slot) : s.statusByte n 3 = s.statusFlags n := rfl

/-- Settles O9: the three cases of step 3, and the block byte by byte. -/
theorem statusBlockReads : Obligations.StatusBlockReads := by
  refine ⟨fun s a d hfree hn hk => ?_, fun s n => ?_⟩
  · have hstep : ∀ t, s.atEdge.statusRead a = t → exec (.stagingBusAccess a d) s = .next t := fun t ht =>
      (exec_access d hfree hn hk).trans (congrArg _ ht)
    refine ⟨fun hsize => hstep _ ?_, fun hsize hst => hstep _ ?_, fun hsize hvacant hsweeping hroom => hstep _ ?_⟩
    · unfold State.statusRead
      simp only [hsize, if_true]
      rfl
    · have hst' : (s.atEdge.slot a.slot).stage = .vacant ∨ (s.atEdge.slot a.slot).stage = .sweeping := hst
      unfold State.statusRead
      simp only [Nat.not_le.mpr hsize, hst', if_true, if_false]
      rfl
    · have hst : ¬((s.atEdge.slot a.slot).stage = .vacant ∨ (s.atEdge.slot a.slot).stage = .sweeping) :=
        not_or.mpr ⟨hvacant, hsweeping⟩
      have hqueue : s.atEdge.queueFull = false := decide_eq_false (Nat.not_le.mpr hroom)
      unfold State.statusRead
      simp only [Nat.not_le.mpr hsize, hst, hqueue, if_false, Bool.false_eq_true]
      rw [State.enqueue_eq]
      rfl
  · obtain ⟨h0, h1, h2, h3, h4, h5, h6, h7⟩ := flagByte_bits (s.slot n).keyEst (s.slot n).punch (s.slot n).print
      (s.slot n).guardActive (s.lockOn n).isSome (s.slot n).retryTimer.isSome (s.chainWait n)
    refine ⟨rfl, rfl, ?heldFrom, ?kind, h0, h1, h2, h3, h4.trans (s.lockOn_isSome n), h5, ?chain, h7,
      joinBytes_hiByte_loByte _, rfl, rfl, ?pred, ?succ, ?seq, ?rest⟩
    case heldFrom =>
      show heldFromByte _ = _
      cases (s.slot n).heldFrom <;> rfl
    case kind =>
      show lastKindByte _ = _
      cases (s.slot n).lastFault <;> rfl
    case chain =>
      refine h6.trans ?_
      unfold State.chainWait
      cases (s.slot n).pred <;> rfl
    case pred =>
      show linkByte _ = _
      cases (s.slot n).pred <;> rfl
    case succ =>
      show linkByte _ = _
      cases (s.slot n).succ <;> rfl
    case seq =>
      refine (joinBytes_hiByte_loByte _).trans ?_
      cases (s.slot n).lastFault <;> rfl
    case rest =>
      intro k hk
      obtain ⟨hlow, hhigh⟩ := Finset.mem_Icc.mp hk
      interval_cases k <;> rfl

/-! LOCK SECOND, LOCK LATE and SEQUENCE denials (R36, R111, R118, R121). -/

/-- A word whose low byte is 0. -/
theorem pairWord_zero (c : Nat) : pairWord c 0 = BitVec.ofNat 16 (c * 256) := by
  rw [pairWord, Nat.add_zero, toWord]

/-- Settles O10: what holds at step 10 is SECOND for a read and LATE for a write once no other agent holds the lock; what holds at step 12 is the
sequence check once nothing waits. -/
theorem lockAndSequenceDenials : Obligations.LockAndSequenceDenials := by
  refine ⟨fun s a d hfree hn hk hown => ⟨fun hwr l hl => ?_, fun hwr => ?_⟩,
    fun s a d hfree hn hk hrole hpunch hprint hretry => ?_⟩
  · have hnot : s.atEdge.lockedByOther a.slot a.tag = false := by
      rw [← Bool.not_eq_true]
      exact fun h => ((s.lockedByOther_iff a.slot a.tag).mp h).elim fun l hl => hl.2.2 (hown l hl.1 hl.2.1)
    have hcond : s.condition a 10 := State.condition_of_step hk (by decide)
    have hopen : a.lopen = true := by
      rcases hcond with ⟨l, hl, hslot, htag⟩ | ⟨-, hopen, -⟩ | ⟨hwrite, -⟩
      · exact absurd (hown l hl hslot) htag
      · exact hopen
      · exact absurd (hwr.symm.trans hwrite) (by decide)
    have hby : s.atEdge.lockBy a.tag = some l := hl
    have hsecond : s.atEdge.isSecond a = true := by simp [State.isSecond, hwr, hopen, hby]
    refine (exec_access d hfree hn hk).trans (congrArg _ ?_)
    show s.atEdge.lockStep a = _
    unfold State.lockStep
    rw [if_neg (by simp [hnot]), if_pos hsecond, hby]
    simp only [State.atEdge_deny, hwr, Bool.false_and, State.locksAfter_false, State.checkReport, pairWord_zero, if_false,
      Bool.false_eq_true]
    rfl
  · have hnot : s.atEdge.lockedByOther a.slot a.tag = false := by
      rw [← Bool.not_eq_true]
      exact fun h => ((s.lockedByOther_iff a.slot a.tag).mp h).elim fun l hl => hl.2.2 (hown l hl.1 hl.2.1)
    have hcond : s.condition a 10 := State.condition_of_step hk (by decide)
    have hunlocked : ∀ l ∈ s.acc.locks, l.slot ≠ a.slot := by
      rcases hcond with ⟨l, hl, hslot, htag⟩ | ⟨hread, -⟩ | ⟨-, -, h⟩
      · exact absurd (hown l hl hslot) htag
      · exact absurd (hwr.symm.trans hread) (by decide)
      · exact h
    have hsecond : s.atEdge.isSecond a = false := by simp [State.isSecond, hwr]
    refine (exec_access d hfree hn hk).trans (congrArg _ ?_)
    show s.atEdge.lockStep a = _
    unfold State.lockStep
    rw [if_neg (by simp [hnot]), if_neg (by simp [hsecond]), State.atEdge_deny_report,
      State.locksAfter_of_unlocked s _ _ _ hunlocked]
    unfold State.checkReport
    simp only [hwr]
    rfl
  · have hcond : s.condition a 12 := State.condition_of_step hk (by decide)
    have hwr : a.wr = true := by
      rcases hcond with ⟨h, -⟩ | ⟨-, h, -⟩
      · exact absurd (hrole.symm.trans h) (by decide)
      · exact h
    have hwaits : (s.atEdge.punchWaits a || s.atEdge.readbackWaits a) = false := by
      have hr : s.atEdge.role a.tag = .verifier := hrole
      have hs : s.atEdge.slot a.slot = s.slot a.slot := rfl
      simp [State.punchWaits, State.readbackWaits, hr, hs, hpunch, hprint, hretry]
    refine (exec_access d hfree hn hk).trans (congrArg _ ?_)
    show s.atEdge.orderStep a = _
    unfold State.orderStep
    rw [if_neg (by simp [hwaits])]
    simp only [State.atEdge_deny, hwr, Bool.true_and]
    rfl

/-! Step 14 (R38, R39). -/

/-- A write that step 14 decides is queued and answered before its tap sees it (R38). -/
def State.queuedWrite (s : State) (a : Access) : State :=
  { s with
    acc := s.locksAfter a.lclose a.slot a.tag
    mp := s.mp.push (s.entryFor a false)
    out := BusOut.respond .accepted [] }

theorem exec_acceptedWrite {s : State} {a : Access} (d : Bool) (hfree : s.busFree) (hn : a.noSize = false)
    (hk : s.decidingStep a = 14) (hwr : a.wr = true) :
    exec (.stagingBusAccess a d) s = .next ((s.queuedWrite a).tap a).arbitrate := by
  refine (exec_access d hfree hn hk).trans (congrArg _ ?_)
  show (if a.wr then s.atEdge.acceptWrite a else s.atEdge.acceptRead a) = _
  rw [if_pos hwr]
  unfold State.acceptWrite
  rw [State.enqueue_eq, State.endLock_eq]
  rfl

/-- The tap of a DECODER write to INDEX is the Index Matcher's (R70). -/
theorem State.tap_of_index {s : State} {a : Access} (hrole : s.role a.tag = .decoder) (h : a.touches .index) :
    (s.queuedWrite a).tap a = (s.queuedWrite a).indexTap a.slot a.tag a.offset a.bytes := by
  have hr : (s.queuedWrite a).role a.tag = .decoder := hrole
  unfold State.tap
  rw [hr, if_pos (by simpa using (coversArea_iff _ _ _).mpr h)]

/-- The tap of a VERIFIER write to READBACK is the Card Check Unit's (R107). -/
theorem State.tap_of_readback {s : State} {a : Access} (hrole : s.role a.tag = .verifier) (h : a.touches .readback) :
    (s.queuedWrite a).tap a = (s.queuedWrite a).readbackTap a.slot a.tag a.offset a.bytes := by
  have hr : (s.queuedWrite a).role a.tag = .verifier := hrole
  unfold State.tap
  rw [hr, if_neg (by simp), if_pos (by simpa using (coversArea_iff _ _ _).mpr h)]

/-- Other writes meet no tap. -/
theorem State.tap_of_none {s : State} {a : Access} (hindex : ¬(s.role a.tag = .decoder ∧ a.touches .index))
    (hreadback : ¬(s.role a.tag = .verifier ∧ a.touches .readback)) : (s.queuedWrite a).tap a = s.queuedWrite a := by
  have hr : (s.queuedWrite a).role a.tag = s.role a.tag := rfl
  unfold State.tap
  rw [hr, if_neg, if_neg]
  · rw [Bool.and_eq_true, beq_iff_eq, coversArea_iff]; exact hreadback
  · rw [Bool.and_eq_true, beq_iff_eq, coversArea_iff]; exact hindex

/-- Settles O11: a write that meets no tap, and a read with or without its lock. -/
theorem acceptedAccessesAreQueued : Obligations.AcceptedAccessesAreQueued := by
  refine ⟨fun s a d hfree hn hk hwr hindex hreadback => ?_, fun s a d hfree hn hk hwr => ?_⟩
  · rw [exec_acceptedWrite d hfree hn hk hwr, State.tap_of_none hindex hreadback]
    rfl
  · refine (exec_access d hfree hn hk).trans (congrArg _ ?_)
    show (if a.wr then s.atEdge.acceptWrite a else s.atEdge.acceptRead a) = _
    rw [if_neg (by simp [hwr])]
    unfold State.acceptRead
    rw [State.enqueue_eq]
    cases a.lopen <;> rfl

end Sys2Proof.Machine
end

section
/-! SUPPORT. What the taps make of an accepted write: the Index Matcher's closings and the Card Check Unit's read-back (chapters 4 and 6; O12 to O16). -/

namespace Sys2Proof

open Sys2Proof.Machine

/-! The bytes of a write. -/

theorem Access.length_bytes (a : Access) : a.bytes.length = a.size := by simp [Access.bytes]

/-- The byte at a window offset the write covers. -/
theorem Access.getD_bytes (a : Access) {x : Nat} (h : a.offset ≤ x ∧ x < a.offset + a.size) :
    a.bytes.getD (x - a.offset) 0#8 = a.byteAt x := by
  have hlt : x - a.offset < a.size := by omega
  have hsum : a.offset + (x - a.offset) = x := by omega
  rw [List.getD_eq_getElem?_getD, Access.bytes, List.getElem?_map, List.getElem?_range hlt]
  simp only [Option.map_some, Option.getD_some, hsum, Access.byteAt]

theorem Access.entryFor_data {s : State} {a : Access} (hwr : a.wr = true) : (s.entryFor a false).data = a.bytes := by
  simp only [State.entryFor, hwr, if_true, Access.bytes]

end Sys2Proof

namespace Sys2Proof.Machine

theorem coversByte_iff (offset size x : Nat) : coversByte offset size x = true ↔ offset ≤ x ∧ x < offset + size := by
  simp [coversByte]

theorem buildVector_get {α : Type} (n : Nat) (f : Fin n → α) (k : Fin n) : (buildVector n f)[k.val] = f k := by
  simp [buildVector]

/-! Key bytes followed (R70). -/

/-- The model's match states are those of R70. -/
theorem SlotRec.follows_iff (r : SlotRec) (a : Access) (keys : Vector KeyState 22) :
    a.follows r keys ↔ keys = (r.follow a.offset a.bytes).keys := by
  have hafter : ∀ k : Fin 22, (r.follow a.offset a.bytes).keys[k.val] =
      if a.offset ≤ 0x40 + k.val ∧ 0x40 + k.val < a.offset + a.size then
        if a.byteAt (0x40 + k.val) = r.key.getD k.val 0#8 then .matched else .mismatched
      else r.keys[k.val] := by
    intro k
    refine (buildVector_get 22 _ k).trans ?_
    unfold SlotRec.keyAfter
    rw [a.length_bytes]
    by_cases h : a.offset ≤ 0x40 + k.val ∧ 0x40 + k.val < a.offset + a.size
    · rw [if_pos ((coversByte_iff _ _ _).mpr h), if_pos h, a.getD_bytes h]
    · rw [if_neg (mt (coversByte_iff _ _ _).mp h), if_neg h]
  constructor
  · intro h
    apply Vector.ext
    intro i hi
    exact (h ⟨i, hi⟩).trans (hafter ⟨i, hi⟩).symm
  · rintro rfl
    exact hafter

/-- The slot records, locks, queue and answer of an accepted write to INDEX, its key bytes followed and nothing judged (R38, R70). -/
def State.followed (s : State) (a : Access) (keys : Vector KeyState 22) : State :=
  { s with
    slots := s.slots.set a.slot.val { s.slot a.slot with keys := keys }
    acc := s.locksAfter a.lclose a.slot a.tag
    mp := s.mp.push (s.entryFor a false)
    out := BusOut.respond .accepted [] }

theorem State.slot_followed (s : State) (a : Access) (keys : Vector KeyState 22) :
    (s.followed a keys).slot a.slot = { s.slot a.slot with keys := keys } := State.slot_of_set _ s.slots _ _ rfl

theorem State.modSlot_follow {s : State} {a : Access} {keys : Vector KeyState 22} (h : a.follows (s.slot a.slot) keys) :
    ((s.queuedWrite a).modSlot a.slot fun r => r.follow a.offset a.bytes) = s.followed a keys := by
  rw [(SlotRec.follows_iff _ a keys).mp h]
  rfl

/-! Closings (R72). -/

/-- The closing of a write that covers 07Ch to 07Fh. -/
theorem closingOf_bytes {a : Access} (hlow : a.offset ≤ 0x7C) (hhigh : 0x80 ≤ a.offset + a.size) :
    closingOf a.offset a.bytes =
      if a.byteAt 0x7D = 0x7E#8 ∧ a.byteAt 0x7E = 0x7E#8 ∧ a.byteAt 0x7F = 0x7E#8 then
        if a.byteAt 0x7C = 1#8 then some .complete else if a.byteAt 0x7C = 2#8 then some .void else none
      else none := by
  have hC : a.bytes.getD (0x7C - a.offset) 0#8 = a.byteAt 0x7C := a.getD_bytes (by omega)
  have hD : a.bytes.getD (0x7D - a.offset) 0#8 = a.byteAt 0x7D := a.getD_bytes (by omega)
  have hE : a.bytes.getD (0x7E - a.offset) 0#8 = a.byteAt 0x7E := a.getD_bytes (by omega)
  have hF : a.bytes.getD (0x7F - a.offset) 0#8 = a.byteAt 0x7F := a.getD_bytes (by omega)
  have hcovers : coversByte a.offset a.size 0x7C = true ∧ coversByte a.offset a.size 0x7F = true := by
    rw [coversByte_iff, coversByte_iff]; omega
  simp only [closingOf, hC, hD, hE, hF, a.length_bytes, hcovers, Bool.true_and, Bool.and_eq_true, beq_iff_eq, and_assoc]

theorem closingOf_complete {a : Access} (h : a.closes 1#8) : closingOf a.offset a.bytes = some .complete := by
  obtain ⟨hlow, hhigh, hcode, hmark⟩ := h
  rw [closingOf_bytes hlow hhigh, if_pos hmark, if_pos hcode]

theorem closingOf_void {a : Access} (h : a.closes 2#8) : closingOf a.offset a.bytes = some .void := by
  obtain ⟨hlow, hhigh, hcode, hmark⟩ := h
  rw [closingOf_bytes hlow hhigh, if_pos hmark, hcode]
  rfl

/-- A write that is neither closing closes nothing. -/
theorem closingOf_none {a : Access} (h1 : ¬a.closes 1#8) (h2 : ¬a.closes 2#8) : closingOf a.offset a.bytes = none := by
  by_cases hcovers : a.offset ≤ 0x7C ∧ 0x80 ≤ a.offset + a.size
  · obtain ⟨hlow, hhigh⟩ := hcovers
    rw [closingOf_bytes hlow hhigh]
    by_cases hmark : a.byteAt 0x7D = 0x7E#8 ∧ a.byteAt 0x7E = 0x7E#8 ∧ a.byteAt 0x7F = 0x7E#8
    · rw [if_pos hmark, if_neg fun hcode => h1 ⟨hlow, hhigh, hcode, hmark⟩,
        if_neg fun hcode => h2 ⟨hlow, hhigh, hcode, hmark⟩]
    · rw [if_neg hmark]
  · have hoff : ¬(coversByte a.offset a.size 0x7C = true ∧ coversByte a.offset a.size 0x7F = true) := by
      rw [coversByte_iff, coversByte_iff]; omega
    unfold closingOf
    rw [a.length_bytes]
    refine if_neg fun hall => hoff ?_
    simp only [Bool.and_eq_true] at hall
    exact hall.1.1.1

/-- An accepted write to INDEX, its key bytes followed and its closing, if it makes one, judged (R38, R70, R72). -/
theorem exec_indexWrite {s : State} {a : Access} (d : Bool) {keys : Vector KeyState 22} (hfree : s.busFree)
    (hn : a.noSize = false) (hk : s.decidingStep a = 14) (hwr : a.wr = true) (hrole : s.role a.tag = .decoder)
    (htouch : a.touches .index) (h : a.follows (s.slot a.slot) keys) :
    exec (.stagingBusAccess a d) s = .next (State.arbitrate
      (match closingOf a.offset a.bytes with
      | some .complete => (s.followed a keys).judgeComplete a.slot a.tag a.offset
      | some .void => (s.followed a keys).report
          (((s.followed a keys).slot a.slot).closingReport a.slot a.tag a.offset .void .plain 0)
      | none => s.followed a keys)) := by
  rw [exec_acceptedWrite d hfree hn hk hwr, State.tap_of_index hrole htouch]
  unfold State.indexTap
  rw [State.modSlot_follow h] <;> rfl

/-- Settles O12: without a closing the tap only follows. -/
theorem indexWritesAreFollowed : Obligations.IndexWritesAreFollowed := by
  intro s a d hfree hn hk hwr hrole htouch h1 h2
  have hfollows := (SlotRec.follows_iff (s.slot a.slot) a _).mpr rfl
  refine ⟨_, hfollows, ?_⟩
  rw [exec_indexWrite d hfree hn hk hwr hrole htouch hfollows, closingOf_none h1 h2]
  rfl

/-! The four steps of R73. -/

/-- A state that no key byte is in is not found. -/
theorem KeyState.idxOf_none {keys : Vector KeyState 22} {x : KeyState} (h : ∀ j : Fin 22, keys[j.val] ≠ x) :
    keys.toList.idxOf? x = none := by
  rw [List.idxOf?_eq_none_iff]
  intro hmem
  obtain ⟨i, hi, hget⟩ := List.getElem_of_mem hmem
  exact h ⟨i, by simpa using hi⟩ (by simpa using hget)

/-- The lowest key byte in a state is found. -/
theorem KeyState.idxOf_some {keys : Vector KeyState 22} {x : KeyState} (k : Fin 22) (hk : keys[k.val] = x)
    (hfirst : ∀ j : Fin 22, j < k → keys[j.val] ≠ x) : keys.toList.idxOf? x = some k.val := by
  rw [List.idxOf?, List.findIdx?_eq_some_iff_getElem]
  refine ⟨by simp, by simpa using hk, fun j hj => ?_⟩
  simpa using hfirst ⟨j, by omega⟩ hj

/-- The locks on the slot that an accepted write leaves are gone with the slot's other locks. -/
theorem State.locksOff_locksAfter (s : State) (c : Bool) (n : Slot) (t : Tag) :
    ({ s with acc := s.locksAfter c n t } : State).locksOff n = s.locksOff n := by
  unfold State.locksOff State.locksAfter
  cases c with
  | false => rfl
  | true =>
    have hfilter : (s.acc.locks.filter fun l => !(l.slot == n && l.tag == t)).filter (fun l => l.slot != n) =
        s.acc.locks.filter fun l => l.slot != n := by
      rw [List.filter_filter]
      apply List.filter_congr
      intro l _
      cases hl : l.slot == n <;> simp [bne, hl]
    simp only [if_true, hfilter]

/-- The write itself is among the entries its slot waits for (R61). -/
theorem State.queuedOf_push (s : State) (a : Access) :
    (s.mp.push (s.entryFor a false)).queue.countP (fun e => e.slot == a.slot) = s.queuedOf a.slot + 1 := by
  simp [MemoryPort.push, State.queuedOf, State.entryFor]

/-- A stage change to a guarded stage (R47, R61). -/
theorem State.changeStage_guarded (s : State) (n : Slot) {st : Stage} (hg : st.guarded = true) :
    s.changeStage n st = { s with slots := s.slots.set n.val (s.handedTo n st), acc := s.locksOff n } := by
  rw [State.changeStage_eq, SlotRec.enter_guarded _ _ hg]
  rfl

/-- The duplicate that R73 looks for, as the obligations write it. -/
theorem State.duplicateOf_followed (s : State) (a : Access) (keys : Vector KeyState 22) :
    (s.followed a keys).duplicateOf a.slot =
      s.directory.find? fun e => e.slot != a.slot && e.key == (s.slot a.slot).key := by
  unfold State.duplicateOf
  rw [State.slot_followed]
  rfl

theorem State.judgeComplete_unwritten {s : State} {n : Slot} (t : Tag) (offset : Nat) {k : Nat}
    (h : (s.slot n).keys.toList.idxOf? .unwritten = some k) :
    s.judgeComplete n t offset = s.report ((s.slot n).closingReport n t offset .index .indexUnwritten k) := by
  unfold State.judgeComplete
  simp only [h]

theorem State.judgeComplete_mismatched {s : State} {n : Slot} (t : Tag) (offset : Nat) {k : Nat}
    (h : (s.slot n).keys.toList.idxOf? .unwritten = none) (h' : (s.slot n).keys.toList.idxOf? .mismatched = some k) :
    s.judgeComplete n t offset = s.report ((s.slot n).closingReport n t offset .index .indexMismatch k) := by
  unfold State.judgeComplete
  simp only [h, h']

/-- With all key bytes in MATCH the directory decides. -/
theorem State.judgeComplete_matched {s : State} {n : Slot} (t : Tag) (offset : Nat)
    (h : ∀ k : Fin 22, (s.slot n).keys[k.val] = .matched) :
    s.judgeComplete n t offset =
      match s.duplicateOf n with
      | some e => s.report ((s.slot n).closingReport n t offset .duplicate .plain e.slot.val)
      | none => s.establishKey n := by
  have hun : (s.slot n).keys.toList.idxOf? .unwritten = none := KeyState.idxOf_none fun j => by rw [h j]; decide
  have hmis : (s.slot n).keys.toList.idxOf? .mismatched = none := KeyState.idxOf_none fun j => by rw [h j]; decide
  unfold State.judgeComplete
  simp only [hun, hmis] <;> rfl

/-- What the establishing of the key makes of the followed write (R61, R74). -/
theorem State.establishKey_followed (s : State) (a : Access) (keys : Vector KeyState 22) :
    (s.followed a keys).establishKey a.slot =
      { s with
        slots := s.slots.set a.slot.val
          { s.handedTo a.slot .composing with keys := keys, keyEst := true, drainCount := s.queuedOf a.slot + 1 }
        acc := s.locksOff a.slot
        directory := s.directory ++ [{ slot := a.slot, key := (s.slot a.slot).key }]
        mp := s.mp.push (s.entryFor a false)
        out := BusOut.respond .accepted [] } := by
  unfold State.establishKey
  rw [State.changeStage_guarded _ _ (by rfl)]
  apply State.eq_of_fields <;> try rfl
  case h1 =>
    show ((s.slots.set a.slot.val _).set a.slot.val _).set a.slot.val _ = _
    rw [Vector.set_set, Vector.set_set]
    congr 1
    unfold State.handedTo
    rw [State.slot_modSlot_self, ← State.queuedOf_push]
    show ({ ({ (s.followed a keys).slot a.slot with keyEst := true } : SlotRec) with
      stage := _, heldFrom := _, guardTimer := _, drainCount := _ } : SlotRec) = _
    rw [State.slot_followed]
    rfl
  case h2 => exact s.locksOff_locksAfter a.lclose a.slot a.tag
  case h4 =>
    show s.directory ++ [{ slot := a.slot, key := ((s.followed a keys).slot a.slot).key }] = _
    rw [State.slot_followed]
    rfl

/-- Settles O13: the four steps of R73 pass. -/
theorem matchingClosingEstablishesTheKey : Obligations.MatchingClosingEstablishesTheKey := by
  intro s a d keys hfree hn hk hwr hrole htouch hcloses hfollows hmatched hnew
  have hall : ∀ k : Fin 22, ((s.followed a keys).slot a.slot).keys[k.val] = .matched := by
    rw [State.slot_followed]; exact hmatched
  have hdup : (s.followed a keys).duplicateOf a.slot = none := by
    rw [State.duplicateOf_followed, List.find?_eq_none]
    intro e he
    simpa using hnew e he
  rw [exec_indexWrite d hfree hn hk hwr hrole htouch hfollows, closingOf_complete hcloses]
  simp only [State.judgeComplete_matched a.tag a.offset hall, hdup, State.establishKey_followed]

/-- Settles O14: each failing step of R73, and a VOID closing, hands its report over. -/
theorem failedClosingsAreReported : Obligations.FailedClosingsAreReported := by
  intro s a d keys kind detail v hfree hn hk hwr hrole htouch hfollows h
  have hkeys : ((s.followed a keys).slot a.slot).keys = keys := by rw [State.slot_followed]
  have hreport : (s.followed a keys).report
      (((s.followed a keys).slot a.slot).closingReport a.slot a.tag a.offset kind detail v) =
      { s with
        slots := s.slots.set a.slot.val { s.slot a.slot with keys := keys }
        acc := s.locksAfter a.lclose a.slot a.tag
        mp := s.mp.push (s.entryFor a false)
        fu := s.fu.push
          { kind := kind
            slot := a.slot
            agent := some a.tag
            stage := .decoding
            detail := detail
            offset := some a.offset
            valueA := BitVec.ofNat 16 v
            valueB := BitVec.ofNat 16
              ((if (s.slot a.slot).closingSeen then 1 else 0) * 256 + keys.toList.count .matched)
            readback := none }
        out := BusOut.respond .accepted [] } := by
    rw [State.slot_followed]
    rfl
  rw [exec_indexWrite d hfree hn hk hwr hrole htouch hfollows]
  refine congrArg (fun t => Host.Outcome.next (State.arbitrate t)) (Eq.trans ?_ hreport)
  rcases h with ⟨hcloses, rfl, rfl, k, rfl, hun, hfirst⟩ | ⟨hcloses, rfl, rfl, hun, k, rfl, hmis, hfirst⟩ |
    ⟨hcloses, rfl, rfl, hmatched, e, hfind, rfl⟩ | ⟨hcloses, rfl, rfl, rfl⟩
  case inl =>
    rw [closingOf_complete hcloses]
    exact State.judgeComplete_unwritten _ _ (hkeys.symm ▸ KeyState.idxOf_some k hun hfirst)
  case inr.inl =>
    rw [closingOf_complete hcloses]
    exact State.judgeComplete_mismatched _ _ (hkeys.symm ▸ KeyState.idxOf_none hun)
      (hkeys.symm ▸ KeyState.idxOf_some k hmis hfirst)
  case inr.inr.inl =>
    rw [closingOf_complete hcloses]
    refine (State.judgeComplete_matched _ _ (hkeys.symm ▸ hmatched)).trans ?_
    rw [State.duplicateOf_followed, hfind]
  case inr.inr.inr => rw [closingOf_void hcloses]

end Sys2Proof.Machine
end

section
/-! SUPPORT. The read-back tap and the settling of READBACK faults (chapter 6; O15, O16, O35). -/

namespace Sys2Proof.Machine

/-! An accepted read-back write (R107). -/

/-- The record of a slot once the bytes of a read-back write have entered its running CRC (R107). -/
def SlotRec.ran (r : SlotRec) (bytes : List Byte) : SlotRec :=
  { r with runCrc := crcBytes r.runCrc bytes, rbPtr := r.rbPtr + bytes.length }

/-- The state after an accepted read-back write whose run has not been judged (R38, R107). -/
def State.ranWrite (s : State) (a : Access) : State :=
  { s with
    slots := s.slots.set a.slot.val ((s.slot a.slot).ran (s.entryFor a false).data)
    acc := s.locksAfter a.lclose a.slot a.tag
    mp := s.mp.push (s.entryFor a false)
    out := BusOut.respond .accepted [] }

theorem State.slot_ranWrite (s : State) (a : Access) :
    (s.ranWrite a).slot a.slot = (s.slot a.slot).ran (s.entryFor a false).data := State.slot_of_set _ s.slots _ _ rfl

theorem SlotRec.ran_rbPtr {s : State} {a : Access} (hwr : a.wr = true) :
    ((s.slot a.slot).ran (s.entryFor a false).data).rbPtr = (s.slot a.slot).rbPtr + a.size := by
  rw [Access.entryFor_data hwr]
  exact congrArg ((s.slot a.slot).rbPtr + ·) a.length_bytes

/-- The run is judged where the pointer comes to 210h, and nowhere else (R108). -/
theorem exec_readbackWrite {s : State} {a : Access} (d : Bool) (hfree : s.busFree) (hn : a.noSize = false)
    (hk : s.decidingStep a = 14) (hwr : a.wr = true) (hrole : s.role a.tag = .verifier) (htouch : a.touches .readback) :
    exec (.stagingBusAccess a d) s = .next (State.arbitrate
      (if (s.slot a.slot).rbPtr + a.size = 0x210 then (s.ranWrite a).endOfRun a.slot a.tag a.offset
        else s.ranWrite a)) := by
  rw [exec_acceptedWrite d hfree hn hk hwr, State.tap_of_readback hrole htouch]
  have hran : ((s.queuedWrite a).modSlot a.slot fun r => r.ran a.bytes) = s.ranWrite a := by
    rw [← Access.entryFor_data (s := s) hwr]
    rfl
  have htap : (s.queuedWrite a).readbackTap a.slot a.tag a.offset a.bytes =
      if ((s.ranWrite a).slot a.slot).rbPtr = 0x210 then (s.ranWrite a).endOfRun a.slot a.tag a.offset
      else s.ranWrite a := by
    rw [← hran]
    rfl
  rw [htap, State.slot_ranWrite, SlotRec.ran_rbPtr hwr]

/-- The record at the end of a run. -/
theorem State.slot_ranWrite_end {s : State} {a : Access} {crc : Word} (hwr : a.wr = true)
    (hend : (s.slot a.slot).rbPtr + a.size = 0x210)
    (hcrc : crcBytes (s.slot a.slot).runCrc (s.entryFor a false).data = crc) :
    (s.ranWrite a).slot a.slot = { s.slot a.slot with runCrc := crc, rbPtr := 0x210 } := by
  subst hcrc
  rw [State.slot_ranWrite, ← hend, ← SlotRec.ran_rbPtr hwr]
  rfl

theorem State.joinVerified_latch (s : State) (n : Slot) :
    (s.joinVerified n).latch .slotVerified =
      { s with
        su := { s.su with verified := s.su.verified ++ [n] }
        fu := { s.fu with latches := s.fu.latches.set 5 true }
        mi := { s.mi with sending := s.mi.sending.map fun x => (x.rejoined n).latchedAgain .slotVerified } } := by
  unfold State.joinVerified State.latch
  simp only [Option.map_map]
  rfl

/-- Settles O15: short of 210h the run goes on; at 210h an equal CRC verifies the slot. -/
theorem readbackRuns : Obligations.ReadbackRuns := by
  refine ⟨fun s a d hfree hn hk hwr hrole htouch hshort => ?_, fun s a d hfree hn hk hwr hrole htouch hend hcrc => ?_⟩
  · rw [exec_readbackWrite d hfree hn hk hwr hrole htouch, if_neg hshort]
    unfold State.ranWrite SlotRec.ran
    rw [Access.entryFor_data hwr, a.length_bytes]
  · rw [exec_readbackWrite d hfree hn hk hwr hrole htouch, if_pos hend]
    have hslot := State.slot_ranWrite_end hwr hend hcrc
    unfold State.endOfRun
    simp only [hslot, if_true]
    rw [State.changeStage_guarded _ _ (by rfl), State.joinVerified_latch]
    refine congrArg (fun t => Host.Outcome.next (State.arbitrate t)) (State.eq_of_fields ?_ ?_ rfl rfl rfl rfl rfl rfl rfl
      rfl rfl rfl rfl rfl)
    · show (s.slots.set a.slot.val _).set a.slot.val _ = _
      rw [Vector.set_set]
      congr 1
      unfold State.handedTo
      rw [hslot, ← State.queuedOf_push]
      rfl
    · exact s.locksOff_locksAfter a.lclose a.slot a.tag

/-! READBACK faults (R110 to R116). -/

theorem raisedCount_of_le {count limit : Nat} (h : count ≤ limit) : raisedCount count limit = count + 1 := if_pos h

theorem raisedCount_of_lt {count limit : Nat} (h : limit < count) : raisedCount count limit = count :=
  if_neg (Nat.not_le.mpr h)

/-- A timer of whole milliseconds. -/
theorem timerOf_ms (w : Word) : timerOf (1000 * w.toNat) = if w = 0#16 then none else some (1000 * w.toNat + 1) := by
  unfold timerOf
  by_cases h : w = 0#16
  · subst h; rfl
  · have hne : w.toNat ≠ 0 := fun e => h (BitVec.eq_of_toNat_eq e)
    rw [if_neg h, if_neg (by omega)]

/-- The raised count within the limit: the read-back begins afresh (R112). -/
theorem State.applyRetry_retried {s : State} {n : Slot} (h : (s.slot n).retryCount < s.su.timing.retryLimit.toNat) :
    s.applyRetry n =
      ({ s with
        slots := s.slots.set n.val
          { s.slot n with
            runCrc := 0xFFFF#16
            rbPtr := 0x170
            retryCount := (s.slot n).retryCount + 1
            retryTimer :=
              if s.su.timing.retryDelay = 0#16 then none else some (1000 * s.su.timing.retryDelay.toNat + 1) } },
        .retried) := by
  unfold State.applyRetry SlotRec.restartReadback
  simp only [raisedCount_of_le h.le, if_neg (Nat.not_lt.mpr (Nat.succ_le_of_lt h)), timerOf_ms]
  rfl

/-- The raised count passes the limit: the retries are exhausted (R113). -/
theorem State.applyRetry_last {s : State} {n : Slot} (h : (s.slot n).retryCount = s.su.timing.retryLimit.toNat) :
    s.applyRetry n =
      ({ s with slots := s.slots.set n.val { s.slot n with retryCount := (s.slot n).retryCount + 1 } },
        .exhausted ((s.slot n).retryCount + 1)) := by
  unfold State.applyRetry
  simp only [raisedCount_of_le h.le, if_pos (Nat.lt_succ_of_le h.ge)]
  rfl

/-- Beyond the limit the count stays. -/
theorem State.applyRetry_beyond {s : State} {n : Slot} (h : s.su.timing.retryLimit.toNat < (s.slot n).retryCount) :
    s.applyRetry n = ({ s with slots := s.slots.set n.val (s.slot n) }, .exhausted (s.slot n).retryCount) := by
  unfold State.applyRetry
  simp only [raisedCount_of_lt h, if_pos h]
  rfl

/-- What the Card Check Unit makes of a READBACK fault in FROZEN, by the programmed response and the retry count (R112, R113, R115). -/
theorem State.settleReadback_frozen {s : State} {n : Slot} {r : SlotRec} {o : ReadbackOutcome}
    (hst : (s.slot n).stage = .frozen)
    (h : s.programmed .readback = .retry ∧ (s.slot n).retryCount < s.su.timing.retryLimit.toNat ∧ o = .retried ∧
        r = { s.slot n with
              runCrc := 0xFFFF#16
              rbPtr := 0x170
              retryCount := (s.slot n).retryCount + 1
              retryTimer :=
                if s.su.timing.retryDelay = 0#16 then none else some (1000 * s.su.timing.retryDelay.toNat + 1) } ∨
      s.programmed .readback = .retry ∧ (s.slot n).retryCount = s.su.timing.retryLimit.toNat ∧
        o = .exhausted ((s.slot n).retryCount + 1) ∧ r = { s.slot n with retryCount := (s.slot n).retryCount + 1 } ∨
      s.programmed .readback = .retry ∧ s.su.timing.retryLimit.toNat < (s.slot n).retryCount ∧
        o = .exhausted (s.slot n).retryCount ∧ r = s.slot n ∨
      s.programmed .readback = .hold ∧ o = .holdProgrammed ∧ r = s.slot n) :
    s.settleReadback n = ({ s with slots := s.slots.set n.val r }, o) := by
  unfold State.settleReadback
  rw [hst]
  rcases h with ⟨hp, hlt, rfl, rfl⟩ | ⟨hp, heq, rfl, rfl⟩ | ⟨hp, hlt, rfl, rfl⟩ | ⟨hp, rfl, rfl⟩
  · rw [hp]; exact State.applyRetry_retried hlt
  · rw [hp]; exact State.applyRetry_last heq
  · rw [hp]; exact State.applyRetry_beyond hlt
  · rw [hp, State.set_slot_self]

theorem State.settleReadback_held {s : State} {n : Slot} (hst : (s.slot n).stage = .held) :
    s.settleReadback n = ({ s with slots := s.slots.set n.val (s.slot n) }, .foundHeld) := by
  unfold State.settleReadback
  rw [hst, State.set_slot_self]

theorem State.settleReadback_elsewhere {s : State} {n : Slot} (hheld : (s.slot n).stage ≠ .held)
    (hfrozen : (s.slot n).stage ≠ .frozen) :
    s.settleReadback n =
      ({ s with slots := s.slots.set n.val (s.slot n) }, .outOfFrozen (s.programmed .readback)) := by
  unfold State.settleReadback
  rw [State.set_slot_self]
  cases hst : (s.slot n).stage with
  | frozen => exact absurd hst hfrozen
  | held => exact absurd hst hheld
  | vacant | loaded | scanning | decoding | composing | freezing | verified | sweeping => rfl

/-- A READBACK fault raised is one slot's record and one report (R140). -/
theorem State.raiseReadback_of_settled {s : State} {n : Slot} {r : SlotRec} {o : ReadbackOutcome} (t : Tag)
    (detail : FaultDetail) (offset : Nat) (a b : Word)
    (h : s.settleReadback n = ({ s with slots := s.slots.set n.val r }, o)) :
    s.raiseReadback n t detail offset a b =
      { s with
        slots := s.slots.set n.val r
        fu := s.fu.push
          { kind := .readback, slot := n, agent := some t, stage := .frozen, detail := detail, offset := some offset
            valueA := a, valueB := b, readback := some o } } := by
  unfold State.raiseReadback
  rw [h]
  rfl

/-- Settles O16: the four ways a mismatch in FROZEN is settled. -/
theorem readbackMismatches : Obligations.ReadbackMismatches := by
  intro s a d r o crc hfree hn hk hwr hrole htouch hend hcrc hne h
  obtain ⟨hst, -, -⟩ := s.readback_of_accepted hk hwr hrole
  have hslot := State.slot_ranWrite_end hwr hend hcrc.symm
  have hsettle : (s.ranWrite a).settleReadback a.slot =
      ({ s.ranWrite a with slots := (s.ranWrite a).slots.set a.slot.val r }, o) := by
    refine State.settleReadback_frozen ?_ ?_
    · rw [hslot]; exact hst
    · rw [hslot]; exact h
  rw [exec_readbackWrite d hfree hn hk hwr hrole htouch, if_pos hend]
  unfold State.endOfRun
  simp only [hslot, if_neg hne]
  rw [State.raiseReadback_of_settled _ _ _ _ _ hsettle]
  refine congrArg (fun t => Host.Outcome.next (State.arbitrate t)) (State.eq_of_fields ?_ rfl rfl rfl rfl rfl rfl rfl rfl
      rfl rfl rfl rfl rfl)
  exact Vector.set_set (hi := a.slot.isLt) ..

/-- Settles O35: the oldest SEQUENCE fault is settled by the stage its slot has reached. -/
theorem sequenceFaultsTaken : Obligations.SequenceFaultsTaken := by
  intro s f rest r o hup hfaults h
  have hsettle : ∀ c, ({ s with cc := c, out := BusOut.quiet } : State).settleReadback f.slot =
      ({ s with slots := s.slots.set f.slot.val r, cc := c, out := BusOut.quiet }, o) := by
    intro c
    rcases h with ⟨hst, rfl, rfl⟩ | ⟨hst, hp, rfl, rfl⟩ | ⟨hst, hp, hlt, rfl, rfl⟩ | ⟨hst, hp, heq, rfl, rfl⟩ |
      ⟨hst, hp, hlt, rfl, rfl⟩ | ⟨hheld, hfrozen, rfl, rfl⟩
    · exact State.settleReadback_held hst
    · exact State.settleReadback_frozen hst (.inr (.inr (.inr ⟨hp, rfl, rfl⟩)))
    · exact State.settleReadback_frozen hst (.inl ⟨hp, hlt, rfl, rfl⟩)
    · exact State.settleReadback_frozen hst (.inr (.inl ⟨hp, heq, rfl, rfl⟩))
    · exact State.settleReadback_frozen hst (.inr (.inr (.inl ⟨hp, hlt, rfl, rfl⟩)))
    · exact State.settleReadback_elsewhere hheld hfrozen
  show Host.Outcome.next (s.whenUp State.takeSequence) = _
  rw [State.whenUp_of_up s hup]
  unfold State.takeSequence
  simp only [hfaults]
  rw [State.raiseReadback_of_settled _ _ _ _ _ (hsettle _)]
  rfl

end Sys2Proof.Machine
end

section
/-! SUPPORT. The write that a request row's event takes, and what the tests of R44 make of it (chapter 3; O17, O25). -/

namespace Sys2Proof

/-- The first byte of a write is that at its offset. -/
theorem Access.headD_bytes (a : Access) : a.bytes.headD 0#8 = a.byteAt a.offset := by
  have hfirst := a.getD_bytes (x := a.offset) ⟨le_refl _, Nat.lt_add_of_pos_right a.size_pos⟩
  rw [Nat.sub_self] at hfirst
  rw [← hfirst]
  cases a.bytes <;> rfl

end Sys2Proof

namespace Sys2Proof.Machine

/-! The event of a request row (R28, R43). -/

theorem exec_command (q : StageRequest) (n : Slot) (t : Tag) (c : Bool) (s : State) :
    exec (q.command n t c) s = .next (s.whenUp fun s => s.requestRow n t c q) := by
  cases q <;> rfl

/-- The state in which the Stage Unit takes a write: none is left in its hands. -/
def State.taking (s : State) : State := { s with su := { s.su with handed := none }, out := BusOut.quiet }

/-- With no write in hand, taking leaves the Stage Unit as it stands. -/
theorem State.taking_of_free {s : State} (h : s.su.handed = none) : s.taking = s.atEdge := by
  unfold State.taking State.atEdge
  rw [← h]

/-- Past steps 1 to 5 of R22 the one-byte write of a request is decided at step 6 (R22 to R28). -/
theorem State.decidingStep_ofRequest {s : State} {n : Slot} {t : Tag} {b : Byte} (c : Bool) (hbridge : s.fu.bridge = .guarding)
    (hrole : s.role t ≠ .unassigned) (hstage : (s.slot n).stage ≠ .vacant) (hlimit : (s.slot n).limit ≠ 0) :
    s.decidingStep (Access.ofRequest n t c b) = 6 := by
  obtain ⟨-, hslot, hoffset, -, -⟩ := Access.ofRequest_facts n t c b
  have htag : (Access.ofRequest n t c b).tag = t := rfl
  have hwr : (Access.ofRequest n t c b).wr = true := rfl
  rw [State.decidingStep_eq_iff _ _ 6 (by decide)]
  refine ⟨⟨hwr, by omega⟩, fun j hj hlt hcond => ?_⟩
  have hlow := (Finset.mem_Icc.mp hj).1
  interval_cases j
  · exact absurd (hbridge.symm.trans hcond.1) (by decide)
  · exact hrole hcond
  · exact absurd (hwr.symm.trans hcond.1) (by decide)
  · rw [State.condition, hslot] at hcond; exact hstage hcond
  · rw [State.condition, hslot, hoffset] at hcond; omega

/-- A row's event is the taking of its write. -/
theorem exec_command_of_takes {s s₀ : State} {n : Slot} {t : Tag} {c : Bool} {q : StageRequest} {w : StageWrite}
    (h : s.eventTakes n t c q w s₀) :
    exec (q.command n t c) s = .next (s.taking.takeWrite w) ∧ s₀ = s.taking ∧ w.slot = n ∧ w.tag = t := by
  obtain ⟨hup, ⟨hfree, hbridge, hrole, hstage, hlimit, hlock, rfl, rfl⟩ | ⟨hhanded, hserved, rfl⟩⟩ := h
  · refine ⟨?_, (State.taking_of_free hfree).symm, rfl, rfl⟩
    obtain ⟨hsize, hslot, hoffset, hone, hbytes⟩ := Access.ofRequest_facts n t c q.code
    have hstep : s.atEdge.decidingStep (Access.ofRequest n t c q.code) = 6 :=
      State.decidingStep_ofRequest c hbridge hrole hstage hlimit
    have hunlocked : s.atEdge.lockedByOther (Access.ofRequest n t c q.code).slot t = false := hslot.symm ▸ hlock
    have hwrite : s.atEdge.stageWriteOf (Access.ofRequest n t c q.code) =
        { slot := n, tag := t, role := s.role t, offset := 0, size := 1, code := q.code, lclose := c } := by
      unfold State.stageWriteOf
      rw [hslot, hoffset, hone, hbytes]
      rfl
    have hrow : s.atEdge.requestRow n t c q = s.atEdge.access (Access.ofRequest n t c q.code) false := by
      unfold State.requestRow
      rw [show s.atEdge.su.handed = none from hfree]
    have haccess : s.atEdge.stageWrite (Access.ofRequest n t c q.code) false =
        s.atEdge.takeWrite (s.atEdge.stageWriteOf (Access.ofRequest n t c q.code)) := by
      unfold State.stageWrite
      rw [if_neg (by rw [show (Access.ofRequest n t c q.code).tag = t from rfl, hunlocked]; decide), if_neg (by decide)]
    rw [exec_command, State.whenUp_of_up s hup, State.taking_of_free hfree, ← hwrite, ← haccess]
    exact congrArg _ (hrow.trans (by rw [State.access_of_step _ _ _ hsize, hstep]; rfl))
  · refine ⟨?_, rfl, ?_, ?_⟩
    · rw [exec_command, State.whenUp_of_up s hup]
      unfold State.requestRow
      simp only [hhanded, hserved, if_true]
      rfl
    all_goals
      simp only [StageWrite.servedBy, Bool.and_eq_true, beq_iff_eq] at hserved
    · exact hserved.1.1
    · exact hserved.1.2

/-! The tests of R44. -/

theorem StageWrite.isRequestForm_iff (w : StageWrite) : w.isRequestForm = true ↔ w.size = 1 ∧ w.offset = 0 := by
  simp [StageWrite.isRequestForm]

theorem State.judgeWrite_malformed {s : State} {w : StageWrite} (h : ¬(w.size = 1 ∧ w.offset = 0)) :
    s.judgeWrite w = .refused .malformed 1 := by
  unfold State.judgeWrite
  rw [if_pos (by rw [Bool.not_eq_true', ← Bool.not_eq_true, w.isRequestForm_iff]; exact h)]

theorem State.judgeWrite_unknown {s : State} {w : StageWrite} (h : w.size = 1 ∧ w.offset = 0)
    (hcode : ¬(0x11 ≤ w.code.toNat ∧ w.code.toNat ≤ 0x17)) : s.judgeWrite w = .refused .unknownCode 1 := by
  unfold State.judgeWrite
  rw [if_neg (by rw [w.isRequestForm_iff.mpr h]; decide), StageRequest.ofCode_eq_none _ hcode]

/-- Tests 3 to 7, of a write that is a request. -/
theorem State.judgeWrite_request {s : State} {w : StageWrite} {q : StageRequest} (h : w.size = 1 ∧ w.offset = 0)
    (hcode : w.code = q.code) :
    s.judgeWrite w =
      if w.role ≠ q.role then .refused .wrongRole 1
      else if q.takenIn (s.slot w.slot) = false then .refused .wrongStage 1
      else s.judgeChain w.slot q := by
  unfold State.judgeWrite
  rw [if_neg (by rw [w.isRequestForm_iff.mpr h]; decide), hcode, StageRequest.ofCode_code]
  simp only [bne_iff_ne, Bool.not_eq_true']

/-- A refusal hands its REQUEST report over, with the fields of R45. -/
theorem State.taking_refused {s : State} {w : StageWrite} {detail : FaultDetail} {low : Nat} {a : Word}
    (hbridge : s.fu.bridge = .guarding) (hjudge : s.taking.judgeWrite w = .refused detail low)
    (hvalue : a = if w.size = 1 ∧ w.offset = 0 then w.code.setWidth 16 else BitVec.ofNat 16 w.size) :
    s.taking.takeWrite w =
      { s.taking with
        acc := s.locksAfter w.lclose w.slot w.tag
        fu := s.fu.push
          { kind := .request, slot := w.slot, agent := some w.tag, stage := (s.slot w.slot).stage, detail := detail
            offset := some w.offset, valueA := a, valueB := BitVec.ofNat 16 (w.role.code * 256 + low), readback := none }
        out := BusOut.respond .denied [] } := by
  rw [State.takeWrite_of_refused s.taking w hbridge detail low hjudge]
  subst hvalue
  unfold State.requestReport
  simp only [w.isRequestForm_iff]
  rfl

/-! The chain checks of an OPEN (R85). -/

theorem SlotRec.inService_iff (r : SlotRec) :
    r.inService = true ↔
      r.stage = .scanning ∨ r.stage = .decoding ∨ r.stage = .composing ∨ r.stage = .freezing ∨ r.stage = .frozen ∨
        r.stage = .verified ∨ r.stage = .held ∧ r.heldFrom ≠ some .sweeping := by
  unfold SlotRec.inService
  cases r.stage <;> simp

theorem State.chainChecks_iff (s : State) (n p : Slot) :
    s.chainChecks n p = true ↔
      (s.slot p).inService = true ∧ (s.slot p).succ = none ∧ p ≠ n ∧
        (s.slot p).key.take 18 = (s.slot n).key.take 18 ∧ (s.slot p).desc[13] = (s.slot n).desc[13] ∧
        (s.slot p).sectionCount = (s.slot n).sectionCount ∧ (s.slot n).sectionNo = (s.slot p).sectionNo + 1 := by
  unfold State.chainChecks SlotRec.sameSheet
  simp only [Bool.and_eq_true, beq_iff_eq, bne_iff_ne, Option.isNone_iff_eq_none, and_assoc,
    eq_comm (a := List.take 18 (s.slot n).key), eq_comm (a := (s.slot n).desc[13]),
    eq_comm (a := (s.slot n).sectionCount)]

theorem slotOfWord_ofNat (p : Slot) : slotOfWord (BitVec.ofNat 16 p.val) = some p := by
  have hval : (BitVec.ofNat 16 p.val).toNat = p.val := by
    rw [BitVec.toNat_ofNat]; omega
  unfold slotOfWord
  rw [dif_pos (by rw [hval]; exact p.isLt)]
  exact congrArg some (Fin.ext hval)

/-- A slot's number is not the word for none. -/
theorem ofNat_slot_ne_none (p : Slot) : BitVec.ofNat 16 p.val ≠ 0xFFFF#16 := by
  intro h
  have hval := congrArg BitVec.toNat h
  rw [BitVec.toNat_ofNat, BitVec.toNat_ofNat] at hval
  omega

theorem State.chainPasses_of_none {s : State} {n : Slot} (h : (s.slot n).requested = 0xFFFF#16) : s.chainPasses n = true := by
  unfold State.chainPasses
  rw [if_pos h]

theorem State.chainPasses_of_slot {s : State} {n p : Slot} (h : (s.slot n).requested = BitVec.ofNat 16 p.val) :
    s.chainPasses n = s.chainChecks n p := by
  unfold State.chainPasses
  rw [h, if_neg (ofNat_slot_ne_none p), slotOfWord_ofNat]

/-! The stages that take a request (R43). -/

theorem resumeTarget_isSome_iff (h : Stage) : (resumeTarget h).isSome = true ↔ h ≠ .vacant ∧ h ≠ .loaded ∧ h ≠ .held := by
  cases h <;> simp [resumeTarget]

theorem reopenable_iff (h : Stage) :
    reopenable h = true ↔ h ∈ [Stage.scanning, .decoding, .composing, .freezing, .frozen, .verified] := by
  cases h <;> simp [reopenable]

theorem StageRequest.takenIn_reopen_iff (r : SlotRec) :
    StageRequest.reopen.takenIn r = true ↔
      r.stage = .held ∧ ∃ h ∈ [Stage.scanning, .decoding, .composing, .freezing, .frozen, .verified], r.heldFrom = some h := by
  simp only [StageRequest.takenIn, Bool.and_eq_true, beq_iff_eq, Option.any_eq_true, reopenable_iff]
  exact and_congr_right fun _ => exists_congr fun _ => and_comm

theorem StageRequest.takenIn_resume_iff (r : SlotRec) :
    StageRequest.resume.takenIn r = true ↔
      r.stage = .held ∧ ∃ h, r.heldFrom = some h ∧ h ≠ .vacant ∧ h ≠ .loaded ∧ h ≠ .held := by
  simp only [StageRequest.takenIn, Bool.and_eq_true, beq_iff_eq]
  refine and_congr_right fun _ => ?_
  cases r.heldFrom with
  | none => simp
  | some h => simpa using resumeTarget_isSome_iff h

theorem StageRequest.takenIn_discard_iff (r : SlotRec) :
    StageRequest.discard.takenIn r = true ↔ r.stage ≠ .vacant ∧ r.stage ≠ .sweeping := by
  unfold StageRequest.takenIn
  cases r.stage <;> simp

/-- Settles O25: the first test that fails names the refusal; a BLOCKED bridge refuses without them. -/
theorem requestsAreRefused : Obligations.RequestsAreRefused := by
  refine ⟨fun s s₀ n t c q w detail a low h hbridge htests => ?_, fun r => ?_, fun s s₀ n t c q w h hbridge => ?_⟩
  · obtain ⟨hexec, rfl, rfl, rfl⟩ := exec_command_of_takes h
    refine hexec.trans (congrArg _ ?_)
    rcases htests with ⟨hform, rfl, rfl, rfl⟩ | ⟨hsize, hoffset, hcode, rfl, rfl, rfl⟩ | ⟨hsize, hoffset, hcode, rfl, hcase⟩
    · exact State.taking_refused hbridge (State.judgeWrite_malformed hform) (if_neg hform).symm
    · exact State.taking_refused hbridge (State.judgeWrite_unknown ⟨hsize, hoffset⟩ hcode) (if_pos ⟨hsize, hoffset⟩).symm
    · refine State.taking_refused hbridge ?_ (if_pos ⟨hsize, hoffset⟩).symm
      rw [State.judgeWrite_request ⟨hsize, hoffset⟩ hcode]
      rcases hcase with ⟨hrole, rfl, rfl⟩ | ⟨hrole, hnot, rfl, rfl⟩ | ⟨hrole, rfl, hst, rfl, p, hrequested, rfl, hchecks⟩ |
        ⟨hrole, rfl, htaken, rfl, p, hsucc, hpunch, rfl⟩
      · rw [if_pos hrole]
      · rw [if_neg (not_not.mpr hrole), if_pos (show q.takenIn (s.taking.slot w.slot) = false from hnot)]
      · have htaken : StageRequest.openCard.takenIn (s.slot w.slot) = true := by simp [StageRequest.takenIn, hst]
        have hpasses : s.taking.chainPasses w.slot = false := by
          rw [State.chainPasses_of_slot (s := s.taking) hrequested, ← Bool.not_eq_true, State.chainChecks_iff]
          exact hchecks
        have hlow : (loByte (s.taking.slot w.slot).requested).toNat = p.val := by
          rw [show (s.taking.slot w.slot).requested = BitVec.ofNat 16 p.val from hrequested, loByte,
            BitVec.toNat_setWidth, BitVec.toNat_ofNat]
          omega
        rw [if_neg (not_not.mpr hrole), if_neg (by rw [show s.taking.slot w.slot = s.slot w.slot from rfl, htaken]; decide)]
        unfold State.judgeChain
        simp only [hpasses, hlow, Bool.false_eq_true, if_false]
      · have hsuccessor : s.taking.punchedSuccessor w.slot = some p := by
          unfold State.punchedSuccessor
          rw [show (s.taking.slot w.slot).succ = some p from hsucc]
          exact if_pos hpunch
        rw [if_neg (not_not.mpr hrole), if_neg (by rw [show s.taking.slot w.slot = s.slot w.slot from rfl, htaken]; decide)]
        unfold State.judgeChain
        simp only [hsuccessor]
  · refine ⟨?_, ?_, ?_, ?_, StageRequest.takenIn_reopen_iff r, StageRequest.takenIn_discard_iff r,
      StageRequest.takenIn_resume_iff r⟩
    all_goals simp only [StageRequest.takenIn, beq_iff_eq]
  · obtain ⟨hexec, rfl, rfl, rfl⟩ := exec_command_of_takes h
    rw [hexec, State.takeWrite_of_blocked s.taking w hbridge]
    rfl

/-! Writes to the status block (R28). -/

theorem State.stageWriteOf_eq (s : State) (a : Access) :
    s.stageWriteOf a =
      { slot := a.slot, tag := a.tag, role := s.role a.tag, offset := a.offset, size := a.size
        code := a.byteAt a.offset, lclose := a.lclose } := by
  unfold State.stageWriteOf
  rw [a.headD_bytes]

/-- Settles O17: past step 6 the write is handed over, or taken at once. -/
theorem statusWritesGoToTheStageUnit : Obligations.StatusWritesGoToTheStageUnit := by
  refine ⟨fun s a d hup hhanded => ?_, fun s a hfree hn hk hown => ?_⟩
  · have harrival : s.atEdge.arrival a d = s.atEdge :=
      if_pos (show s.atEdge.su.handed.isSome = true from Option.isSome_iff_ne_none.mpr hhanded)
    show Host.Outcome.next (s.whenUp fun s => s.arrival a d) = _
    rw [State.whenUp_of_up s hup]
    exact congrArg _ harrival
  · have hunlocked : ¬s.atEdge.lockedByOther a.slot a.tag = true := fun h =>
      ((s.lockedByOther_iff a.slot a.tag).mp h).elim fun l hl => hl.2.2 (hown l hl.1 hl.2.1)
    have hnow : exec (.stagingBusAccess a false) s = .next (s.taking.takeWrite (s.stageWriteOf a)) := by
      rw [exec_access false hfree hn hk, State.taking_of_free hfree.2]
      show Host.Outcome.next (s.atEdge.stageWrite a false) = _
      unfold State.stageWrite
      rw [if_neg hunlocked, if_neg (by decide)]
      rfl
    refine ⟨?_, fun detail v hbridge htests => ?_, fun q hsize hoffset hcode => ?_⟩
    · rw [exec_access true hfree hn hk]
      show Host.Outcome.next (s.atEdge.stageWrite a true) = _
      unfold State.stageWrite
      rw [if_neg hunlocked, if_pos rfl, State.stageWriteOf_eq]
      rfl
    · rw [hnow, State.stageWriteOf_eq]
      rcases htests with ⟨hform, rfl, rfl⟩ | ⟨hsize, hoffset, hcode, rfl, rfl⟩
      · rw [State.taking_refused hbridge (State.judgeWrite_malformed hform) (if_neg hform).symm,
          State.taking_of_free hfree.2]
        rfl
      · have hunknown : ¬(0x11 ≤ (a.byteAt a.offset).toNat ∧ (a.byteAt a.offset).toNat ≤ 0x17) := by rw [hoffset]; exact hcode
        rw [State.taking_refused hbridge (State.judgeWrite_unknown ⟨hsize, hoffset⟩ hunknown) (if_pos ⟨hsize, hoffset⟩).symm,
          State.taking_of_free hfree.2, hoffset]
        rfl
    · have hwr : a.wr = true := (State.condition_of_step hk (by decide)).1
      have hnot := fun j hj hlt => s.not_condition_of_lt (a := a) j hk hj hlt
      have hbridge : s.fu.bridge = .guarding := by
        cases hb : s.fu.bridge with
        | guarding => rfl
        | blocked => exact absurd ⟨hb, fun hread => by simp [hwr] at hread⟩ (hnot 1 (by decide) (by decide))
      have hlimit : (s.slot a.slot).limit ≠ 0 := fun hzero =>
        hnot 5 (by decide) (by decide) (by rw [State.condition, hzero]; omega)
      have htakes : s.eventTakes a.slot a.tag a.lclose q (s.stageWriteOf a) s.atEdge := by
        refine ⟨hfree.1, Or.inl ⟨hfree.2, hbridge, hnot 2 (by decide) (by decide), hnot 4 (by decide) (by decide), hlimit,
          Bool.not_eq_true _ ▸ hunlocked, ?_, rfl⟩⟩
        rw [State.stageWriteOf_eq, hsize, hoffset, hcode]
      rw [hnow, (exec_command_of_takes htakes).1]

end Sys2Proof.Machine
end

section
/-! SUPPORT. What each stage request does when it is taken (chapter 3; O18 to O24). -/

namespace Sys2Proof.Machine

/-! A request taken (R43, R44). -/

/-- The state in which a request makes its change: its write has been answered ACCEPTED. -/
def State.accepting (s : State) : State :=
  { s with su := { s.su with handed := none }, out := BusOut.respond .accepted [] }

/-- A row's event whose write passes the tests is the request's change. -/
theorem exec_request {s s₀ : State} {n : Slot} {t : Tag} {c : Bool} {q : StageRequest} {w : StageWrite}
    (h : s.eventTakes n t c q w s₀) (hasks : w.asks q) (hbridge : s.fu.bridge = .guarding)
    (htaken : q.takenIn (s.slot n) = true) (hchain : s.judgeChain n q = .taken q) :
    s₀ = s.taking ∧ exec (q.command n t c) s = .next (s.accepting.takeRequest n t q) := by
  obtain ⟨hexec, htaking, rfl, rfl⟩ := exec_command_of_takes h
  refine ⟨htaking, ?_⟩
  rw [hexec, State.takeWrite_of_taken s.taking q w hbridge hasks htaken hchain]
  rfl

/-- A stage change to a guarded stage, with more done to the same record. -/
theorem State.modSlot_changeStage (s : State) (n : Slot) {st : Stage} (hg : st.guarded = true) (f : SlotRec → SlotRec) :
    (s.changeStage n st).modSlot n f =
      { s with slots := s.slots.set n.val (f (s.handedTo n st)), acc := s.locksOff n } := by
  rw [State.changeStage_guarded s n hg, State.modSlot_eq, State.slot_of_set _ s.slots n _ rfl, Vector.set_set]

theorem State.slot_withSet (s : State) (v : Vector SlotRec 64) (n : Slot) (r : SlotRec) :
    ({ s with slots := v.set n.val r } : State).slot n = r := State.slot_of_set _ v n r rfl

/-! OPEN (R48, R84 to R86). -/

theorem State.linkRequested_of_none {s : State} {n : Slot} (h : (s.slot n).requested = 0xFFFF#16) : s.linkRequested n = s :=
  if_pos h

/-- Both halves of the link, the predecessor's written first. -/
theorem State.linkRequested_of_slot {s : State} {n p : Slot} (h : (s.slot n).requested = BitVec.ofNat 16 p.val) (hne : p ≠ n) :
    s.linkRequested n =
      { s with
        slots := (s.slots.set p.val { s.slot p with succ := some n }).set n.val { s.slot n with pred := some p } } := by
  unfold State.linkRequested
  rw [h, if_neg (ofNat_slot_ne_none p), slotOfWord_ofNat]
  simp only [State.modSlot_eq]
  have hp : (s.modSlot n fun r => { r with pred := some p }).slot p = s.slot p := s.slot_modSlot_of_ne n p _ hne
  rw [State.modSlot_eq] at hp
  rw [hp, Vector.set_comm (h := fun e => hne (Fin.ext e).symm)]

/-- Settles O18: a chain head has no link to set; a requested predecessor is linked in the event of the stage change. -/
theorem openStartsScanning : Obligations.OpenStartsScanning := by
  have htaken : ∀ (s : State) (n : Slot), (s.slot n).stage = .loaded →
      StageRequest.openCard.takenIn (s.slot n) = true := fun s n hst => by simp [StageRequest.takenIn, hst]
  have hjudge : ∀ (s : State) (n : Slot), s.chainPasses n = true →
      s.judgeChain n .openCard = .taken .openCard := fun s n hpass => if_pos hpass
  refine ⟨fun s s₀ n t c w h hasks hbridge hst hrequested => ?_,
    fun s s₀ n p t c w h hasks hbridge hst hrequested hservice hsucc hne hkey hdesc hcount hno => ?_⟩
  · obtain ⟨rfl, hexec⟩ := exec_request h hasks hbridge (htaken s n hst) (hjudge s n (State.chainPasses_of_none hrequested))
    refine hexec.trans (congrArg _ ?_)
    show s.accepting.takeOpen n = _
    unfold State.takeOpen
    rw [State.linkRequested_of_none (s := s.accepting) hrequested, State.modSlot_changeStage _ n (by rfl)]
    rfl
  · have hpass : s.chainPasses n = true := by
      rw [State.chainPasses_of_slot hrequested, State.chainChecks_iff]
      exact ⟨(SlotRec.inService_iff _).mpr hservice, hsucc, hne, hkey, hdesc, hcount, hno⟩
    obtain ⟨rfl, hexec⟩ := exec_request h hasks hbridge (htaken s n hst) (hjudge s n hpass)
    refine hexec.trans (congrArg _ ?_)
    show s.accepting.takeOpen n = _
    unfold State.takeOpen
    rw [State.linkRequested_of_slot (s := s.accepting) hrequested hne, State.modSlot_changeStage _ n (by rfl)]
    unfold State.handedTo
    rw [State.slot_withSet, Vector.set_set]
    rfl

/-! FRAME DONE and FREEZE (R49, R50). -/

/-- Settles O19. -/
theorem frameDoneStartsDecoding : Obligations.FrameDoneStartsDecoding := by
  intro s s₀ n t c w h hasks hbridge hst
  obtain ⟨rfl, hexec⟩ := exec_request h hasks hbridge (by simp [StageRequest.takenIn, hst]) rfl
  refine hexec.trans (congrArg _ ?_)
  show s.accepting.takeFrameDone n = _
  unfold State.takeFrameDone
  rw [State.modSlot_changeStage _ n (by rfl)]
  rfl

/-- Settles O20: the slot joins the list, and the freeze under way is the list's. -/
theorem freezeJoinsTheFreezeOrderList : Obligations.FreezeJoinsTheFreezeOrderList := by
  intro s s₀ n t c w h hasks hbridge hst
  obtain ⟨rfl, hexec⟩ := exec_request h hasks hbridge (by simp [StageRequest.takenIn, hst]) rfl
  refine hexec.trans (congrArg _ ?_)
  show (((s.accepting.changeStage n .freezing).joinFreezeList n).arbitrate : State) = _
  unfold State.joinFreezeList
  rw [State.changeStage_guarded _ n (by rfl), State.takeUpFreeze_eq]
  rfl

/-! RETIRE (R51). -/

/-- Settles O21: off the verified queue, out of the directory and its chain, and onto the sweep queue. -/
theorem retireStartsSweeping : Obligations.RetireStartsSweeping := by
  intro s s₀ n t c w h hasks hbridge hst
  obtain ⟨rfl, hexec⟩ := exec_request h hasks hbridge (by simp [StageRequest.takenIn, hst]) rfl
  obtain ⟨slots, hslots, hoff⟩ := (s.accepting.leaveVerified n).sweepOff_eq n
  refine ⟨slots, hslots, hexec.trans (congrArg _ ?_)⟩
  show State.joinSweep ((((s.accepting.leaveVerified n).releaseKey n).unlink n).changeStage n .sweeping) n = _
  rw [hoff]
  rfl

/-! REOPEN (R58). -/

/-- Settles O22: the card starts over in its chain place. -/
theorem reopenRestartsTheCard : Obligations.ReopenRestartsTheCard := by
  intro s s₀ n t c w h htakes hasks hbridge hst hfrom hmem hsucc
  have hchain : s.judgeChain n .reopen = .taken .reopen := by
    have hnone : s.punchedSuccessor n = none := by
      unfold State.punchedSuccessor
      cases hq : (s.slot n).succ with
      | none => rfl
      | some q => simp only [hsucc q hq, Bool.false_eq_true, if_false]
    unfold State.judgeChain
    simp only [hnone]
  obtain ⟨rfl, hexec⟩ := exec_request htakes hasks hbridge
    ((StageRequest.takenIn_reopen_iff _).mpr ⟨hst, h, hmem, hfrom⟩) hchain
  refine hexec.trans (congrArg _ ?_)
  show s.accepting.takeReopen n = _
  unfold State.takeReopen
  rw [State.modSlot_changeStage _ n (by rfl)]
  refine State.eq_of_fields ?_ rfl rfl rfl rfl rfl rfl rfl rfl rfl rfl rfl rfl rfl
  show (s.slots.set n.val _).set n.val _ = _
  rw [Vector.set_set]
  congr 1
  unfold State.handedTo
  rw [State.slot_releaseKey, if_pos rfl]
  rfl

/-! RESUME (R56, R57). -/

/-- What a taken RESUME does, by the stage it leads to. -/
theorem State.takeResume_eq {s : State} {n : Slot} {h st : Stage} (hfrom : (s.slot n).heldFrom = some h)
    (htarget : resumeTarget h = some st) : s.takeResume n = (s.changeStage n st).redoForResume n h := by
  unfold State.takeResume
  simp only [hfrom, htarget]

/-- Entry to SWEEPING, which starts no guard timer. -/
theorem State.changeStage_sweeping (s : State) (n : Slot) :
    s.changeStage n .sweeping =
      { s with
        slots := s.slots.set n.val { s.handedTo n .sweeping with guardTimer := none }
        acc := s.locksOff n } := by
  rw [State.changeStage_eq, SlotRec.enter_sweeping]
  rfl

/-- Settles O23: the seven rows of R56. -/
theorem resumeReturnsToTheHeldFromStage : Obligations.ResumeReturnsToTheHeldFromStage := by
  intro s s₀ n t c w h r v q htakes hasks hbridge hst hfrom hrow
  have hstage : h ≠ .vacant ∧ h ≠ .loaded ∧ h ≠ .held := by
    refine ⟨?_, ?_, ?_⟩
    all_goals
      rintro rfl
      simp at hrow
  obtain ⟨rfl, hexec⟩ := exec_request htakes hasks hbridge
    ((StageRequest.takenIn_resume_iff _).mpr ⟨hst, h, hfrom, hstage⟩) rfl
  have htake : ∀ st, resumeTarget h = some st →
      s.accepting.takeRequest n t .resume = (s.accepting.changeStage n st).redoForResume n h := fun st =>
    State.takeResume_eq (s := s.accepting) hfrom
  refine hexec.trans (congrArg _ ?_)
  rcases hrow with ⟨rfl, rfl, rfl, rfl⟩ | ⟨rfl, rfl, rfl, rfl⟩ | ⟨rfl, rfl, rfl, rfl⟩ | ⟨rfl, rfl, rfl, rfl⟩ |
    ⟨rfl, rfl, rfl, rfl⟩ | ⟨rfl, rfl, rfl, rfl⟩ | ⟨rfl, rfl, rfl, rfl⟩
  · rw [htake .scanning rfl, State.changeStage_guarded _ n (by rfl)]
    rfl
  · rw [htake .decoding rfl]
    exact s.accepting.modSlot_changeStage n (st := .decoding) rfl fun r => r.resetMatch false
  · rw [htake .composing rfl, State.changeStage_guarded _ n (by rfl)]
    rfl
  · rw [htake .composing rfl, State.changeStage_guarded _ n (by rfl)]
    rfl
  · rw [htake .frozen rfl]
    exact s.accepting.modSlot_changeStage n (st := .frozen) rfl fun r =>
      { r with rbPtr := 0x170, runCrc := 0xFFFF#16, retryCount := 0 }
  · rw [htake .verified rfl, State.changeStage_guarded _ n (by rfl)]
    rfl
  · rw [htake .sweeping rfl, State.changeStage_sweeping]
    rfl

/-! DISCARD (R52, R53). -/

/-- What a DISCARD undoes: the freeze, the retry timer, the place in the verified queue (R53). -/
theorem State.undoForDiscard_eq {s : State} {n : Slot}
    (hst : (s.slot n).stage ∈ [Stage.scanning, .decoding, .composing, .freezing, .frozen, .verified, .held]) :
    s.undoForDiscard n =
      { s with
        slots := s.slots.set n.val
          { s.slot n with retryTimer := if (s.slot n).stage = .frozen then none else (s.slot n).retryTimer }
        su :=
          { s.su with
            verified :=
              if (s.slot n).stage = .verified then s.su.verified.filter fun m => m != n else s.su.verified }
        cc := if (s.slot n).stage = .freezing then s.cc.without n s.mp.op else s.cc
        mp := if (s.slot n).stage = .freezing then s.mp.withoutFreeze s.cc n else s.mp } := by
  by_cases hfrozen : (s.slot n).stage = .frozen
  · have hundo : s.undoForDiscard n = s.modSlot n fun r => { r with retryTimer := none } := by
      unfold State.undoForDiscard
      simp only [hfrozen]
    have hverified : ¬(s.slot n).stage = .verified := by simp [hfrozen]
    have hfreezing : ¬(s.slot n).stage = .freezing := by simp [hfrozen]
    rw [hundo, if_pos hfrozen, if_neg hverified, if_neg hfreezing, if_neg hfreezing]
    rfl
  · have hkept : s.slots.set n.val
        { s.slot n with retryTimer := if (s.slot n).stage = .frozen then none else (s.slot n).retryTimer } = s.slots := by
      rw [if_neg hfrozen]
      exact s.set_slot_self n
    rw [hkept]
    unfold State.undoForDiscard
    cases h : (s.slot n).stage with
    | frozen => exact absurd h hfrozen
    | vacant | loaded | sweeping => rw [h] at hst; exact absurd hst (by decide)
    | scanning | decoding | composing | held | verified => rfl
    | freezing => exact s.abandonFreeze_eq n

/-- Settles O24: LOADED empties; any other stage undoes its own, sweeps, and tells the live successor. -/
theorem discardEmptiesOrSweeps : Obligations.DiscardEmptiesOrSweeps := by
  refine ⟨fun s s₀ n t c w h hasks hbridge hst => ?_, fun s s₀ n t c w h hasks hbridge hst => ?_⟩
  · obtain ⟨rfl, hexec⟩ := exec_request h hasks hbridge ((StageRequest.takenIn_discard_iff _).mpr (by simp [hst])) rfl
    refine hexec.trans (congrArg _ ?_)
    show s.accepting.takeDiscard n t = _
    unfold State.takeDiscard
    rw [if_pos (show (s.accepting.slot n).stage = .loaded from hst), State.vacate_eq]
    rfl
  · have hstage : (s.slot n).stage ≠ .vacant ∧ (s.slot n).stage ≠ .sweeping ∧ (s.slot n).stage ≠ .loaded := by
      refine ⟨?_, ?_, ?_⟩
      all_goals
        intro hbad
        rw [hbad] at hst
        exact absurd hst (by decide)
    obtain ⟨hvacant, hsweeping, hloaded⟩ := hstage
    obtain ⟨rfl, hexec⟩ := exec_request h hasks hbridge
      ((StageRequest.takenIn_discard_iff _).mpr ⟨hvacant, hsweeping⟩) rfl
    obtain ⟨slots, hslots, hoff⟩ := (s.accepting.undoForDiscard n).sweepOff_eq n
    have hundo := State.undoForDiscard_eq (s := s.accepting) hst
    have hslot : ∀ m, (s.accepting.undoForDiscard n).slot m =
        if m = n then { s.slot n with retryTimer := if (s.slot n).stage = .frozen then none else (s.slot n).retryTimer }
        else s.slot m := by
      intro m
      rw [hundo]
      exact s.slot_modSlot n m fun r => { r with retryTimer := if r.stage = .frozen then none else r.retryTimer }
    have hqueue : (s.accepting.undoForDiscard n).queuedOf n = s.queuedOf n := by
      rw [hundo]
      unfold State.queuedOf
      dsimp only
      split <;> rfl
    refine ⟨slots, fun m => ?_, hexec.trans (congrArg _ ?_)⟩
    · rw [hslots m]
      by_cases hm : m = n
      · rw [if_pos hm, if_pos hm]
        unfold State.leaving
        rw [hslot n, if_pos rfl, hqueue]
      · rw [if_neg hm, if_neg hm]
        unfold State.cutFrom
        rw [hslot n, if_pos rfl, hslot m, if_neg hm]
    · show s.accepting.takeDiscard n t = _
      unfold State.takeDiscard
      rw [if_neg (show ¬(s.accepting.slot n).stage = .loaded from hloaded), hoff, hundo]
      unfold State.raiseOrphan
      rw [show (s.accepting.slot n).succ = (s.slot n).succ from rfl]
      cases (s.slot n).succ <;> rfl

end Sys2Proof.Machine
end

section
/-! SUPPORT. Whose grant is next, and what a grant does (chapter 8; O26). -/

namespace Sys2Proof.Machine

/-! The requesters (R98, R125, R136). -/

theorem State.freezeAsks_iff (s : State) :
    s.asks .freezeReader = true ↔
      ∃ f, s.cc.freeze = some f ∧ (s.slot f.slot).drainCount = 0 ∧ f.returned < 3 ∧
        s.mp.op.any MemOp.isFreezeRead = false := by
  show s.freezeAsks = true ↔ _
  unfold State.freezeAsks
  cases s.cc.freeze with
  | none => simp
  | some f =>
    simp only [Bool.and_eq_true, beq_iff_eq, Bool.not_eq_true', decide_eq_true_eq, Option.some.injEq, exists_eq_left']
    tauto

theorem State.queueAsks_iff (s : State) : s.asks .memoryQueue = true ↔ s.mp.queue ≠ [] := by
  show s.queueAsks = true ↔ _
  simp [State.queueAsks]

theorem State.sweepAsks_iff (s : State) :
    s.asks .sweepEngine = true ↔
      ∃ w, s.sw.sweep = some w ∧ w.stopped = false ∧ w.done < (s.slot w.slot).limit * 64 ∧
        s.mp.op.any MemOp.isSweepBurst = false := by
  show s.sweepAsks = true ↔ _
  unfold State.sweepAsks
  cases s.sw.sweep with
  | none => simp
  | some w =>
    simp only [Bool.and_eq_true, Bool.not_eq_true', decide_eq_true_eq, Option.some.injEq, exists_eq_left']
    tauto

/-! The turn (R128). -/

/-- A requester's place in the arbiter's table: what must not ask beside it, or must wait (R128). -/
def State.firstByTable (s : State) (r : Requester) : Prop :=
  match r with
  | .freezeReader => True
  | .memoryQueue => s.asks .freezeReader = false ∧ ¬(s.asks .sweepEngine = true ∧ 16 ≤ s.mp.sweepWait)
  | .sweepEngine => s.asks .freezeReader = false ∧ (s.asks .memoryQueue = false ∨ 16 ≤ s.mp.sweepWait)

theorem State.byTable_iff (s : State) (r : Requester) : s.byTable = some r ↔ s.asks r = true ∧ s.firstByTable r := by
  have hlimit : Config.sweepWaitLimit = 16 := rfl
  unfold State.byTable
  rw [hlimit]
  by_cases hfreeze : s.freezeAsks = true
  case pos =>
    rw [if_pos hfreeze]
    cases r <;> simp [State.firstByTable, State.asks, hfreeze]
  case neg =>
    rw [if_neg hfreeze]
    rw [Bool.not_eq_true] at hfreeze
    by_cases hsweep : s.sweepAsks = true
    case neg =>
      rw [Bool.not_eq_true] at hsweep
      cases r <;> simp [State.firstByTable, State.asks, hfreeze, hsweep]
    case pos =>
      by_cases hwait : 16 ≤ s.mp.sweepWait
      · cases r <;> simp [State.firstByTable, State.asks, hfreeze, hsweep, hwait]
      · cases hqueue : s.queueAsks
        all_goals cases r <;> simp [State.firstByTable, State.asks, hfreeze, hsweep, hwait, hqueue]

/-- Either the requester settled on still asks, or there is none that does. -/
theorem State.due_cases (s : State) :
    (∃ x, s.mp.due = some x ∧ s.asks x = true) ∨ ∀ x, s.mp.due = some x → s.asks x = false := by
  cases hdue : s.mp.due with
  | none => exact Or.inr nofun
  | some x =>
    cases hasks : s.asks x with
    | true => exact Or.inl ⟨x, rfl, hasks⟩
    | false => exact Or.inr fun y hy => Option.some.inj hy ▸ hasks

/-- THE TURN is the arbiter's next grant. -/
theorem State.turnOf_iff (s : State) (r : Requester) : s.turnOf r ↔ s.grantee = some r := by
  show s.mp.op = none ∧ s.asks r = true ∧
    (s.mp.due = some r ∨ (∀ x, s.mp.due = some x → s.asks x = false) ∧ s.firstByTable r) ↔ _
  by_cases hop : s.mp.op = none
  case neg => rw [State.grantee_of_busy s hop]; simp [hop]
  rcases s.due_cases with ⟨x, hdue, hasks⟩ | hnone
  · rw [State.grantee_of_due s x hop hdue hasks, hdue]
    constructor
    · rintro ⟨-, -, h | ⟨h, -⟩⟩
      · exact h
      · exact absurd hasks (by rw [h x rfl]; decide)
    · intro h
      exact ⟨hop, Option.some.inj h ▸ hasks, Or.inl h⟩
  · rw [State.grantee_of_table s hop hnone, State.byTable_iff]
    constructor
    · rintro ⟨-, hasks, h | ⟨-, h⟩⟩
      · exact absurd hasks (by rw [hnone r h]; decide)
      · exact ⟨hasks, h⟩
    · rintro ⟨hasks, h⟩
      exact ⟨hop, hasks, Or.inr ⟨hnone, h⟩⟩

/-- The Sweep Engine asks at the moment of the next grant (R129). -/
theorem State.asksBeside_iff (s : State) : s.asksBeside ↔ s.sweepBeside = true := by
  unfold State.asksBeside
  rcases s.due_cases with ⟨x, hdue, hasks⟩ | hnone
  · rw [State.sweepBeside_of_due s x hdue hasks]
    constructor
    · rintro (⟨-, -, -, h⟩ | ⟨h, -⟩)
      · exact h
      · exact absurd hasks (by rw [h x hdue]; decide)
    · exact fun h => Or.inl ⟨x, hdue, hasks, h⟩
  · rw [State.sweepBeside_of_table s hnone]
    constructor
    · rintro (⟨x, hdue, hasks, -⟩ | ⟨-, h⟩)
      · exact absurd hasks (by rw [hnone x hdue]; decide)
      · exact h
    · exact fun h => Or.inr ⟨hnone, h⟩

/-- What settling chooses (R128, R129). -/
theorem State.arbitrate_choice (s : State) (r : Requester) :
    (s.arbitrate.mp.due = some r ↔ s.turnOf r) ∧
      (s.arbitrate.mp.besideSweep = true ↔ (∃ x, s.turnOf x) ∧ s.asksBeside) := by
  refine ⟨(s.turnOf_iff r).symm, ?_⟩
  show (s.grantee.isSome && s.sweepBeside) = true ↔ _
  rw [Bool.and_eq_true, Option.isSome_iff_exists, s.asksBeside_iff]
  simp only [s.turnOf_iff]

/-! The grants (R98, R128, R129, R135). -/

/-- The window offset of the next freeze read (R98). -/
theorem freezeReadOffset_succ {k : Nat} (h : k < 3) : freezeReadOffset (k + 1) = [0x080, 0x0C0, 0x100].getD k 0 := by
  interval_cases k <;> rfl

theorem exec_freezeReadGrant {s : State} (hup : s.pins.resetLow = false) :
    exec .freezeReadGrant s = .next s.atEdge.grantFreezeRead := congrArg _ (s.whenUp_of_up hup _)

theorem exec_queueHeadGrant {s : State} (hup : s.pins.resetLow = false) :
    exec .queueHeadGrant s = .next s.atEdge.grantQueueHead := congrArg _ (s.whenUp_of_up hup _)

theorem exec_sweepBurstGrant {s : State} (hup : s.pins.resetLow = false) :
    exec .sweepBurstGrant s = .next s.atEdge.grantBurst := congrArg _ (s.whenUp_of_up hup _)

/-- A grant row that is not the turn's changes nothing. -/
theorem grantFreezeRead_of_not_turn {s : State} (h : s.grantee ≠ some .freezeReader) : s.grantFreezeRead = s := by
  unfold State.grantFreezeRead
  split
  · rw [if_neg h]
  · rfl

theorem grantBurst_of_not_turn {s : State} (h : s.grantee ≠ some .sweepEngine) : s.grantBurst = s := by
  unfold State.grantBurst
  split
  · rw [if_neg h]
  · rfl

/-! The start of a sweep (R136). -/

theorem exec_sweepStart {s : State} (hup : s.pins.resetLow = false) :
    exec .sweepStart s = .next s.atEdge.startSweep := congrArg _ (s.whenUp_of_up hup _)

theorem State.sweepStartable_eq_some {s : State} {n : Slot} {rest : List Slot} (hsweep : s.sw.sweep = none)
    (hqueue : s.sw.queue = n :: rest) (hdrain : (s.slot n).drainCount = 0) (hop : s.mp.op.any MemOp.isSweepBurst = false) :
    s.sweepStartable = some n := by
  unfold State.sweepStartable
  simp [hsweep, hqueue, hdrain, hop]

theorem State.sweepStartable_eq_none {s : State}
    (h : s.sw.sweep ≠ none ∨ s.mp.op.any MemOp.isSweepBurst = true ∨
      ∀ n, s.sw.queue.head? = some n → (s.slot n).drainCount ≠ 0) : s.sweepStartable = none := by
  unfold State.sweepStartable
  split
  case h_2 => rfl
  case h_1 n rest hsweep hqueue =>
    refine if_neg fun hstart => ?_
    obtain ⟨hdrain, hop⟩ := Bool.and_eq_true_iff.mp hstart
    rcases h with h | h | h
    · exact h hsweep
    · simp [h] at hop
    · exact h n (by rw [hqueue]; rfl) (by simpa using hdrain)

/-- Settles O26: the turn, the three grants, and the start of a sweep. -/
theorem grantsAndSweepStarts : Obligations.GrantsAndSweepStarts := by
  refine ⟨fun s => ⟨s.freezeAsks_iff, s.queueAsks_iff, s.sweepAsks_iff, fun r =>
    ⟨(s.arbitrate_choice r).1, (s.arbitrate_choice r).2, rfl⟩⟩, fun s hup => ⟨fun hturn f hf => ?freeze,
    fun count hturn hcount => ?queue, fun hturn w hw => ?sweep, fun c hc hturn => ?others⟩,
    fun s n rest hup hsweep hqueue hdrain hop => ?starts, fun s hup h => ?waits⟩
  case freeze =>
    obtain ⟨f', hf', -, hreturned, -⟩ := s.freezeAsks_iff.mp hturn.2.1
    obtain rfl := Option.some.inj (hf.symm.trans hf')
    rw [exec_freezeReadGrant hup]
    unfold State.grantFreezeRead
    simp only [show s.atEdge.cc.freeze = some f from hf,
      show s.atEdge.grantee = some .freezeReader from (s.turnOf_iff _).mp hturn, if_true, freezeReadOffset_succ hreturned]
    rfl
  case queue =>
    rw [exec_queueHeadGrant hup]
    unfold State.grantQueueHead
    have hsweep : (if s.atEdge.sweepBeside then min Config.sweepWaitLimit (s.atEdge.mp.sweepWait + 1)
        else s.atEdge.mp.sweepWait) = count := by
      rcases hcount with ⟨hbeside, rfl⟩ | ⟨hbeside, rfl⟩
      · exact if_pos (s.asksBeside_iff.mp hbeside)
      · exact if_neg (mt s.asksBeside_iff.mpr hbeside)
    rw [if_pos (show s.atEdge.grantee = some .memoryQueue from (s.turnOf_iff _).mp hturn), hsweep]
    rfl
  case sweep =>
    rw [exec_sweepBurstGrant hup]
    unfold State.grantBurst
    simp only [show s.atEdge.sw.sweep = some w from hw,
      show s.atEdge.grantee = some .sweepEngine from (s.turnOf_iff _).mp hturn, if_true]
    rfl
  case others =>
    have hnot : s.atEdge.grantee ≠ some c.1 := fun h => hturn ((s.turnOf_iff _).mpr h)
    simp only [List.mem_cons, List.not_mem_nil, or_false] at hc
    rcases hc with rfl | rfl | rfl
    · exact (exec_freezeReadGrant hup).trans (congrArg _ (grantFreezeRead_of_not_turn hnot))
    · exact (exec_queueHeadGrant hup).trans (congrArg _ (if_neg hnot))
    · exact (exec_sweepBurstGrant hup).trans (congrArg _ (grantBurst_of_not_turn hnot))
  case starts =>
    have hstart : s.atEdge.sweepStartable = some n := State.sweepStartable_eq_some hsweep hqueue hdrain hop
    refine (exec_sweepStart hup).trans (congrArg _ ?_)
    unfold State.startSweep
    rw [hstart]
    rfl
  case waits =>
    have hstart : s.atEdge.sweepStartable = none := State.sweepStartable_eq_none h
    refine (exec_sweepStart hup).trans (congrArg _ ?_)
    unfold State.startSweep
    rw [hstart]
    rfl

end Sys2Proof.Machine
end

section
/-! SUPPORT. Memory's answers: to the queue's head, to freeze reads and to sweep bursts (chapters 6 and 8; O27 to O33). -/

namespace Sys2Proof.Machine

/-- A failed write leaves its own bytes free and no other (R131, R133). -/
theorem State.exists_spoil (s : State) (pa n : Nat) (hwf : s.mem.wf) :
    ∃ mem free, (∀ x : Nat, ¬(pa ≤ x ∧ x < pa + n) → Memory.read mem x = s.mem.read x) ∧
      s.spoil pa n = { s with mem := mem, freeCount := free } :=
  ⟨_, _, fun x hx => s.read_spoil_of_outside pa n x hwf hx, s.spoil_eq pa n⟩

/-! The queue's head (R126, R127, R130, R131). -/

theorem exec_queuedReadDone {s : State} (hup : s.pins.resetLow = false) : exec .queuedReadDone s = s.atEdge.readDone :=
  s.whenUpPerform_of_up hup _

theorem exec_queuedWriteDone {s : State} (hup : s.pins.resetLow = false) : exec .queuedWriteDone s = s.atEdge.writeDone :=
  s.whenUpPerform_of_up hup _

theorem exec_queuedReadError {s : State} (hup : s.pins.resetLow = false) :
    exec .queuedReadError s = .next s.atEdge.readError := congrArg _ (s.whenUp_of_up hup _)

theorem exec_queuedWriteError {s : State} (hup : s.pins.resetLow = false) :
    exec .queuedWriteError s = .next s.atEdge.writeError := congrArg _ (s.whenUp_of_up hup _)

theorem State.headInFlight_of_queue {s : State} {e : QEntry} {rest : List QEntry} {wr : Bool} (hop : s.mp.op = some .queueHead)
    (hqueue : s.mp.queue = e :: rest) (hwr : e.wr = wr) : s.headInFlight wr = some e := by
  unfold State.headInFlight
  simp only [hop, hqueue, hwr, if_true]

/-- The entry that has been answered has left the queue, and its slot waits for one less (R126, R127). -/
theorem State.completeHead_eq {s : State} {e : QEntry} {rest : List QEntry} (hqueue : s.mp.queue = e :: rest) :
    s.completeHead e =
      { s with
        slots := s.slots.set e.slot.val { s.slot e.slot with drainCount := (s.slot e.slot).drainCount - 1 }
        mp := { s.mp with queue := rest, op := none } } := by
  unfold State.completeHead State.lowerDrain
  rw [hqueue]
  rfl

theorem QEntry.completesPunch_eq (e : QEntry) (r : SlotRec) :
    e.completesPunch r = decide (e.role = .punch ∧ e.offset ≤ 0x11F ∧ 0x11F < e.offset + e.size ∧ r.stage = .frozen) := by
  unfold QEntry.completesPunch
  rw [Bool.eq_iff_iff]
  simp only [Bool.and_eq_true, beq_iff_eq, coversByte_iff, and_assoc, decide_eq_true_eq]

theorem QEntry.completesPrint_eq (e : QEntry) (r : SlotRec) :
    e.completesPrint r = decide (e.role = .printer ∧ e.offset ≤ 0x16F ∧ 0x16F < e.offset + e.size ∧ r.stage = .frozen) := by
  unfold QEntry.completesPrint
  rw [Bool.eq_iff_iff]
  simp only [Bool.and_eq_true, beq_iff_eq, coversByte_iff, and_assoc, decide_eq_true_eq]

/-- Settles O27: the entry leaves, the flags of its slot follow, and the answer shows the state that leaves. -/
theorem queuedReadsAnswered : Obligations.QueuedReadsAnswered := by
  intro s e rest t hup hop hqueue hwr hin ht
  have hhead : s.atEdge.headInFlight false = some e := State.headInFlight_of_queue hop hqueue hwr
  have hdone : ((s.atEdge.completeHead e).modSlot e.slot fun r => r.afterRead e) = t := by
    rw [ht, State.modSlot_eq, State.slot_completeHead, if_pos rfl, State.completeHead_eq (s := s.atEdge) hqueue]
    dsimp only
    rw [Vector.set_set]
    unfold SlotRec.afterRead
    rw [QEntry.completesPunch_eq, QEntry.completesPrint_eq]
    rfl
  have hout : t.out = BusOut.quiet := by rw [ht]
  rw [exec_queuedReadDone hup]
  unfold State.readDone
  simp only [hhead]
  unfold State.performRead State.finishRead
  rw [if_pos (show s.atEdge.inMemory e.pa e.size = true from hin)]
  simp only [hdone]
  unfold State.answerQueued
  rw [hout]
  rfl

/-- Settles O28: the bytes land, each at its address. -/
theorem queuedWritesLand : Obligations.QueuedWritesLand := by
  intro s e rest hup hwf hop hqueue hwr hin
  refine ⟨s.mem.writeBytes e.pa e.data, fun x => s.mem.read_writeBytes e.pa x e.data hwf, ?_⟩
  have hhead : s.atEdge.headInFlight true = some e := State.headInFlight_of_queue hop hqueue hwr
  rw [exec_queuedWriteDone hup]
  unfold State.writeDone
  simp only [hhead]
  rw [State.completeHead_eq (s := s.atEdge) hqueue]
  exact State.performWrite_arbitrate _ _ _ hin

/-- Settles O29: a read is answered with zeros, a write's bytes are left free; both are reported. -/
theorem queuedErrorsReported : Obligations.QueuedErrorsReported := by
  intro s e rest rep hup hwf hop hqueue hrep
  have hreport : s.atEdge.queueErrorReport e = rep := hrep.symm
  refine ⟨fun hwr => ?_, fun hwr => ?_⟩
  · have hhead : s.atEdge.headInFlight false = some e := State.headInFlight_of_queue hop hqueue hwr
    rw [exec_queuedReadError hup]
    unfold State.readError
    simp only [hhead, hreport]
    rw [State.completeHead_eq (s := s.atEdge) hqueue]
    rfl
  · have hhead : s.atEdge.headInFlight true = some e := State.headInFlight_of_queue hop hqueue hwr
    obtain ⟨mem, free, hmem, hspoil⟩ := (s.atEdge.completeHead e).exists_spoil e.pa e.data.length hwf
    refine ⟨mem, free, hmem, ?_⟩
    rw [exec_queuedWriteError hup]
    unfold State.writeError
    simp only [hhead, hreport]
    rw [hspoil, State.completeHead_eq (s := s.atEdge) hqueue]
    rfl

/-! Freeze reads (R98 to R103, R132). -/

theorem exec_freezeReadReturn {s : State} (hup : s.pins.resetLow = false) :
    exec .freezeReadReturn s = s.atEdge.returnFreezeRead := s.whenUpPerform_of_up hup _

theorem exec_freezeReadError {s : State} (hup : s.pins.resetLow = false) :
    exec .freezeReadError s = .next s.atEdge.failFreezeRead := congrArg _ (s.whenUp_of_up hup _)

theorem freezeReadOffset_of {k : Nat} (hk : k = 1 ∨ k = 2 ∨ k = 3) :
    freezeReadOffset k = if k = 1 then 0x080 else if k = 2 then 0x0C0 else 0x100 := by
  rcases hk with rfl | rfl | rfl <;> rfl

/-- A word whose high byte is 0. -/
theorem pairWord_low (k : Nat) : pairWord 0 k = BitVec.ofNat 16 k := by
  rw [pairWord, Nat.zero_mul, Nat.zero_add, toWord]

/-- The third freeze read's return, as one state (R99). -/
theorem State.completeFreeze_eq (s : State) (n : Slot) (crc : Word) :
    s.completeFreeze n crc =
      { s with
        slots := s.slots.set n.val { s.handedTo n .frozen with frozenCrc := crc }
        acc := s.locksOff n
        cc :=
          { s.cc with
            freezeList := s.cc.freezeList.filter fun m => m != n
            freeze := nextFreeze (s.cc.freezeList.filter fun m => m != n) none s.mp.op } } := by
  unfold State.completeFreeze
  rw [State.takeUpFreeze_eq, State.changeStage_guarded _ n (by rfl), State.modSlot_eq]
  unfold State.handedTo
  rw [State.slot_withSet, Vector.set_set]
  rfl

/-- Settles O30: a read short of the third goes on, the third freezes the card, an error abandons the freeze. -/
theorem freezeReadsAnswered : Obligations.FreezeReadsAnswered := by
  refine ⟨fun s f n k pa crc hup hop hfreeze hin hcrc => ?_, fun s f n k pa hup hop hfreeze hk => ?_⟩
  · have hentered : exec .freezeReadReturn s =
        .next (s.atEdge.freeMemory.enterFreezeData f (s.mem.readBytes pa (freezeReadSize k))).arbitrate := by
      rw [exec_freezeReadReturn hup]
      unfold State.returnFreezeRead
      simp only [show s.atEdge.mp.op = _ from hop, show s.atEdge.cc.freeze = _ from hfreeze]
      exact if_pos hin
    have hacc : crcBytes f.acc (s.mem.readBytes pa (freezeReadSize k)) = crc := hcrc.symm
    refine ⟨fun hmore => ?_, fun hlast => ?_⟩
    · rw [hentered]
      unfold State.enterFreezeData
      simp only [hacc]
      rw [if_neg (by omega)]
      rfl
    · rw [hentered]
      unfold State.enterFreezeData
      simp only [hacc]
      rw [if_pos (by omega), State.completeFreeze_eq]
      rfl
  · rw [exec_freezeReadError hup]
    unfold State.failFreezeRead
    simp only [show s.atEdge.mp.op = _ from hop, show s.atEdge.cc.freeze = _ from hfreeze, State.takeUpFreeze_eq]
    unfold State.freezeErrorReport
    rw [freezeReadOffset_of hk, pairWord_low]
    rfl

/-! Sweep bursts (R133, R135 to R138). -/

theorem exec_sweepBurstDone {s : State} (hup : s.pins.resetLow = false) : exec .sweepBurstDone s = s.atEdge.burstDone :=
  s.whenUpPerform_of_up hup _

theorem exec_sweepBurstError {s : State} (hup : s.pins.resetLow = false) :
    exec .sweepBurstError s = .next s.atEdge.burstError := congrArg _ (s.whenUp_of_up hup _)

theorem State.countBurst_more {s : State} {w : Sweep} (h : w.done + 1 < (s.slot w.slot).limit * 64) :
    s.countBurst w = { s with sw := { s.sw with sweep := some { w with done := w.done + 1 } } } := if_neg (Nat.not_le.mpr h)

/-- The last burst empties the slot and latches SWEEP DONE (R137). -/
theorem State.countBurst_last {s : State} {w : Sweep} (h : w.done + 1 = (s.slot w.slot).limit * 64) :
    s.countBurst w =
      { s with
        slots := s.slots.set w.slot.val (s.slot w.slot).emptied
        acc := s.locksOff w.slot
        sw := { queue := s.sw.queue.filter fun m => m != w.slot, sweep := none }
        fu := { s.fu with latches := s.fu.latches.set 6 true }
        mi := { s.mi with sending := s.mi.sending.map fun x => x.latchedAgain .sweepDone } } := by
  unfold State.countBurst State.completeSweep
  rw [if_pos h.ge, State.vacate_eq]
  rfl

/-- 64 zero bytes land, and no other. -/
theorem Memory.read_zeros (m : Memory) (pa x : Nat) (hwf : m.wf) :
    (m.writeBytes pa (zeroBytes 64)).read x = if pa ≤ x ∧ x < pa + 64 then 0#8 else m.read x := by
  have hlength : (zeroBytes 64).length = 64 := List.length_replicate
  rw [Memory.read_writeBytes _ _ _ _ hwf, hlength]
  by_cases hx : pa ≤ x ∧ x < pa + 64
  · rw [if_pos hx, if_pos hx, zeroBytes, List.getD_replicate _ (by omega)]
  · rw [if_neg hx, if_neg hx]

/-- Settles O31: the read is dropped and the next freeze taken up; the burst's bytes land or are left free. -/
theorem abandonedAnswersDiscarded : Obligations.AbandonedAnswersDiscarded := by
  intro s n k pa hup
  refine ⟨fun hop c hc => ?_, fun hwf hin hop => ⟨?_, ?_⟩⟩
  · simp only [List.mem_cons, List.not_mem_nil, or_false] at hc
    have hdropped : s.atEdge.freeMemory.takeUpFreeze =
        { s with
          cc := { s.cc with freeze := nextFreeze s.cc.freezeList s.cc.freeze none }
          mp := { s.mp with op := none }
          out := BusOut.quiet } := State.takeUpFreeze_eq _
    rcases hc with rfl | rfl
    · rw [exec_freezeReadReturn hup]
      unfold State.returnFreezeRead
      simp only [show s.atEdge.mp.op = _ from hop, hdropped]
    · rw [exec_freezeReadError hup]
      unfold State.failFreezeRead
      simp only [show s.atEdge.mp.op = _ from hop, hdropped]
  · refine ⟨s.mem.writeBytes pa (zeroBytes 64), fun x => s.mem.read_zeros pa x hwf, ?_⟩
    rw [exec_sweepBurstDone hup]
    unfold State.burstDone
    simp only [show s.atEdge.mp.op = _ from hop]
    exact State.performWrite_arbitrate _ _ _ hin
  · obtain ⟨mem, free, hmem, hspoil⟩ := s.atEdge.freeMemory.exists_spoil pa 64 hwf
    refine ⟨mem, free, hmem, ?_⟩
    rw [exec_sweepBurstError hup]
    unfold State.burstError
    simp only [show s.atEdge.mp.op = _ from hop]
    exact congrArg (fun t => Host.Outcome.next (State.arbitrate t)) hspoil

/-- Settles O32: a burst short of the last counts, the last one empties the slot, an error stops the sweep. -/
theorem sweepBurstsAnswered : Obligations.SweepBurstsAnswered := by
  refine ⟨fun s w n k pa hup hwf hop hsweep hin => ?_, fun s w n k pa hup hwf hop hsweep => ?_⟩
  · refine ⟨s.mem.writeBytes pa (zeroBytes 64), fun x => s.mem.read_zeros pa x hwf, ?_⟩
    have hdone : exec .sweepBurstDone s =
        (s.atEdge.freeMemory.countBurst w).arbitrate.performWrite pa (zeroBytes 64) := by
      rw [exec_sweepBurstDone hup]
      unfold State.burstDone
      simp only [show s.atEdge.mp.op = _ from hop, show s.atEdge.sw.sweep = _ from hsweep]
      rfl
    refine ⟨fun hmore => ?_, fun hlast => ?_⟩
    · rw [hdone, State.countBurst_more (s := s.atEdge.freeMemory) hmore]
      exact State.performWrite_arbitrate _ _ _ hin
    · rw [hdone, State.countBurst_last (s := s.atEdge.freeMemory) hlast]
      exact State.performWrite_arbitrate _ _ _ hin
  · obtain ⟨mem, free, hmem, hspoil⟩ := State.exists_spoil
      { s.atEdge.freeMemory with sw := { s.sw with sweep := some { w with stopped := true } } }
      pa 64 hwf
    refine ⟨mem, free, hmem, ?_⟩
    rw [exec_sweepBurstError hup]
    unfold State.burstError
    simp only [show s.atEdge.mp.op = _ from hop, show s.atEdge.sw.sweep = _ from hsweep]
    exact congrArg (fun t => Host.Outcome.next (State.arbitrate (State.report t (sweepErrorReport w.slot k pa)))) hspoil

/-! The check value (R100). -/

/-- Settles O33: the register's steps are its definition; the check value is computed. -/
theorem cardCheckCrc : Obligations.CardCheckCrc := by
  refine ⟨fun reg bit => ?_, fun reg b => rfl, fun reg => rfl, fun reg b rest => rfl, by decide +kernel⟩
  unfold crcBit
  rw [BitVec.msb_eq_getLsbD_last]
  simp only [Nat.add_one_sub_one, bne_iff_ne, ite_not]

end Sys2Proof.Machine
end

section
/-! SUPPORT. What taking a fault report does: its verdict, its record, its causes (chapter 9; O36, O37). -/

namespace Sys2Proof.Machine

/-! The causes a report latches (R151). -/

/-- The causes of a verdict, in the order in which they are latched. -/
def Verdict.causes (v : Verdict) (k : FaultKind) (full guarding : Bool) : List Cause :=
  (if v.blocks && guarding then [.blockEntered] else []) ++ (if k == .memory then [.memoryError] else []) ++
    (if v.holds then [.slotHeld] else []) ++ (if full then [.logOverflow] else []) ++
    (if v.reports then [.faultReported] else [])

theorem Verdict.mem_causes (v : Verdict) (k : FaultKind) (full guarding : Bool) (c : Cause) :
    c ∈ v.causes k full guarding ↔
      (c = .blockEntered ∧ v.blocks = true ∧ guarding = true) ∨ (c = .memoryError ∧ k = .memory) ∨
        (c = .slotHeld ∧ v.holds = true) ∨ (c = .logOverflow ∧ full = true) ∨ (c = .faultReported ∧ v.reports = true) := by
  unfold Verdict.causes
  cases c <;> simp

theorem FaultUnit.mem_besides (fu : FaultUnit) (r : Report) (c : Cause) :
    c ∈ fu.besides r ↔ (c = .memoryError ∧ r.kind = .memory) ∨ (c = .logOverflow ∧ ¬fu.log.length < 32) := by
  unfold FaultUnit.besides
  cases c <;> simp

theorem State.latchIf_eq (s : State) (p : Bool) (c : Cause) :
    s.latchIf p c = (if p then [c] else []).foldl State.latch s := by
  cases p <;> rfl

theorem State.latchFor_eq (s : State) (v : Verdict) (k : FaultKind) (full guarding : Bool) :
    s.latchFor v k full guarding = (v.causes k full guarding).foldl State.latch s := by
  simp only [State.latchFor, Verdict.causes, State.latchIf_eq, List.foldl_append]

/-- A byte being sent reads a list of causes by its members. -/
theorem Sending.afterLatching_congr {l m : List Cause} (h : ∀ c, c ∈ l ↔ c ∈ m) (x : Sending) :
    x.afterLatching l = x.afterLatching m := by
  have hcontains : ∀ c, l.contains c = m.contains c := fun c => by
    rw [Bool.eq_iff_iff, List.contains_iff_mem, List.contains_iff_mem]; exact h c
  unfold Sending.afterLatching
  simp only [hcontains]

/-- Latching causes, given by their members, comes to the latches that R161 gives. -/
theorem State.latch_all_of_mem {s : State} {l m : List Cause} {latches : Vector Bool 7} (h : ∀ c, c ∈ l ↔ c ∈ m)
    (hlatches : s.fu.latchesWith m latches) :
    l.foldl State.latch s =
      { s with
        fu := { s.fu with latches := latches }
        mi := { s.mi with sending := s.mi.sending.map fun x => x.afterLatching m } } := by
  obtain ⟨v, hv, hall⟩ := s.latch_all l
  have hsame : s.fu.latchesWith m v := fun c => by
    rw [hv c]
    congr 1
    rw [Bool.eq_iff_iff, List.contains_iff_mem, List.contains_iff_mem]; exact h c
  have hafter : (fun x : Sending => x.afterLatching l) = fun x => x.afterLatching m :=
    funext (Sending.afterLatching_congr h)
  rw [hall, FaultUnit.latchesWith_unique _ _ _ _ hsame hlatches, hafter]

/-! The record (R156 to R158). -/

theorem State.recordOf_eq (s : State) (r : Report) (v : Verdict) :
    s.recordOf r v = s.fu.recordFor r v.applied v.detail v.valueB := rfl

/-- The record entered with its slot's last fault fields, or lost with the overflow flag set. -/
theorem State.enterRecord_eq (s : State) (r : Report) (v : Verdict) :
    s.enterRecord r v =
      { s with
        slots := s.slots.set r.slot.val
          { s.slot r.slot with lastFault := s.fu.lastFaultAfter r (s.slot r.slot).lastFault }
        fu :=
          { s.fu with
            log := if s.fu.log.length < 32 then s.fu.log ++ [s.recordOf r v] else s.fu.log
            nextSeq := if s.fu.log.length < 32 then s.fu.nextSeq + 1#16 else s.fu.nextSeq
            overflow := if s.fu.log.length < 32 then s.fu.overflow else true } } := by
  unfold State.enterRecord State.logFull FaultUnit.lastFaultAfter
  by_cases h : s.fu.log.length < 32
  · have hroom : ¬Config.logPlaces ≤ s.fu.log.length := Nat.not_le.mpr h
    simp only [h, hroom, if_true, if_false, decide_false, Bool.false_eq_true]
    rfl
  · have hfull : Config.logPlaces ≤ s.fu.log.length := Nat.le_of_not_lt h
    simp only [h, hfull, if_true, if_false, decide_true]
    rw [State.set_slot_self]

theorem State.blockIf_eq (s : State) (b : Bool) :
    s.blockIf b = { s with fu := { s.fu with bridge := if b then .blocked else s.fu.bridge } } := by
  cases b <;> rfl

/-! Taking a report (R141). -/

/-- The oldest report leaves the Fault Unit's hands. -/
def State.withoutReport (s : State) (rest : List Report) : State := { s with fu := { s.fu with reports := rest } }

/-- What taking a report leaves, once its verdict has been applied to the slot in `u`. -/
def State.recorded (u s : State) (r : Report) (rest : List Report) (v : Verdict) (causes : List Cause)
    (latches : Vector Bool 7) : State :=
  { u with
    slots := u.slots.set r.slot.val
      { u.slot r.slot with lastFault := s.fu.lastFaultAfter r (u.slot r.slot).lastFault }
    fu := s.fu.taken rest (s.fu.recordFor r v.applied v.detail v.valueB) v.blocks latches
    mi := { s.mi with sending := s.mi.sending.map fun x => x.afterLatching causes } }

/-- THE TAKING OF A REPORT, by its verdict: slot, record, bridge state and causes as one event. -/
theorem State.takeReport_eq {s u : State} {r : Report} {rest : List Report} {v : Verdict} {causes : List Cause}
    {latches : Vector Bool 7} (hreports : s.fu.reports = r :: rest) (hv : s.verdict r = v)
    (hu : (s.withoutReport rest).applyVerdict r v = u) (hfu : u.fu = (s.withoutReport rest).fu) (hmi : u.mi = s.mi)
    (hcauses : ∀ c, c ∈ v.causes r.kind s.logFull (s.fu.bridge == .guarding) ↔ c ∈ causes)
    (hlatches : s.fu.latchesWith causes latches) :
    s.takeReport =
      if v.holds then (u.recorded s r rest v causes latches).arbitrate else u.recorded s r rest v causes latches := by
  have hlatch : ((u.enterRecord r v).blockIf v.blocks).latchFor v r.kind s.logFull (s.fu.bridge == .guarding) =
      u.recorded s r rest v causes latches := by
    have hbefore : ((u.enterRecord r v).blockIf v.blocks).fu.latchesWith causes latches := by
      rw [State.blockIf_eq, State.enterRecord_eq, hfu]
      exact hlatches
    rw [State.latchFor_eq, State.latch_all_of_mem hcauses hbefore, State.blockIf_eq, State.enterRecord_eq,
      State.recordOf_eq, hfu, hmi]
    rfl
  unfold State.takeReport
  simp only [hreports, hv]
  have happly : ({ s with fu := { s.fu with reports := rest } } : State).applyVerdict r v = u := hu
  rw [happly, hlatch]

theorem State.applyVerdict_of_hold (s : State) {r : Report} {v : Verdict} (hholds : v.holds = true)
    (hreset : v.resetsMatch r.kind = false) : s.applyVerdict r v = s.hold r.slot := by
  unfold State.applyVerdict
  simp only [hholds, hreset, if_true, if_false, Bool.false_eq_true]

theorem State.applyVerdict_of_not_hold (s : State) {r : Report} {v : Verdict} (hholds : v.holds = false) :
    s.applyVerdict r v = if v.resetsMatch r.kind then s.modSlot r.slot fun x => x.resetMatch true else s := by
  unfold State.applyVerdict
  simp only [hholds, if_false, Bool.false_eq_true]

theorem exec_faultReportTaken {s : State} (hup : s.pins.resetLow = false) :
    exec .faultReportTaken s = .next s.atEdge.takeReport := congrArg _ (s.whenUp_of_up hup _)

theorem State.logFull_iff (s : State) : s.logFull = true ↔ ¬s.fu.log.length < 32 := by
  unfold State.logFull
  rw [decide_eq_true_iff]
  exact Nat.not_lt.symm

/-! A report that holds its slot (R147, R150). -/

/-- The verdict of a report that holds a slot in a holdable stage. -/
theorem State.verdict_holds {s : State} {r : Report} {applied : Applied} {detail : FaultDetail} {b : Word}
    (hst : (s.slot r.slot).stage.holdable = true) (hheld : (s.slot r.slot).stage ≠ .held)
    (h : r.readback = none ∧ s.programmed r.kind = .hold ∧ applied = .hold ∧ detail = r.detail ∧ b = r.valueB ∨
      r.readback = none ∧ s.programmed r.kind = .block ∧ applied = .block ∧ detail = r.detail ∧ b = r.valueB ∨
      r.readback = some .holdProgrammed ∧ applied = .hold ∧ detail = r.detail ∧ b = r.valueB ∨
      ∃ k, r.readback = some (.exhausted k) ∧ applied = .hold ∧ detail = .readbackExhausted ∧
        b = BitVec.ofNat 16 (r.detail.code * 256 + k)) :
    s.verdict r = { applied := applied, holds := true, blocks := applied == .block, detail := detail, valueB := b } := by
  have hhold : ∀ d w, holdVerdict (s.slot r.slot).stage d w =
      { applied := .hold, holds := true, blocks := false, detail := d, valueB := w } := fun d w => by
    unfold holdVerdict; rw [hst]; rfl
  unfold State.verdict Report.recordDetail
  rcases h with ⟨hread, hp, rfl, rfl, rfl⟩ | ⟨hread, hp, rfl, rfl, rfl⟩ | ⟨hread, rfl, rfl, rfl⟩ | ⟨k, hread, rfl, rfl, rfl⟩
  · simp only [hread, if_neg hheld, hp]
    exact hhold _ _
  · simp only [hread, if_neg hheld, hp, programmedVerdict, hst]
    rfl
  · simp only [hread, if_neg hheld]
    exact hhold _ _
  · simp only [hread, if_neg hheld]
    exact hhold _ _

/-- Settles O36: the verdict holds, and the hold is that of R54. -/
theorem faultReportsThatHold : Obligations.FaultReportsThatHold := by
  intro s r rest applied detail b causes latches hup hreports hst hcase hcauses hlatches
  have happlied : applied = .hold ∨ applied = .block := by
    rcases hcase with h | h | h | ⟨k, h⟩
    · exact Or.inl h.2.2.1
    · exact Or.inr h.2.2.1
    · exact Or.inl h.2.1
    · exact Or.inl h.2.1
  have hstages : (s.slot r.slot).stage.holdable = true ∧ (s.slot r.slot).stage ≠ .held := by
    revert hst
    cases (s.slot r.slot).stage <;> decide
  have hv : s.atEdge.verdict r = _ := State.verdict_holds (s := s.atEdge) hstages.1 hstages.2 hcase
  have hu := (s.atEdge.withoutReport rest).applyVerdict_of_hold (r := r)
    (v := { applied := applied, holds := true, blocks := applied == .block, detail := detail, valueB := b }) rfl (by
      rcases happlied with rfl | rfl <;> rfl)
  rw [State.hold_eq (s.atEdge.withoutReport rest) r.slot hst] at hu
  have hmem : ∀ c, c ∈ Verdict.causes
      { applied := applied, holds := true, blocks := applied == .block, detail := detail, valueB := b }
      r.kind s.atEdge.logFull (s.fu.bridge == .guarding) ↔ c ∈ causes := by
    intro c
    have hlog : s.atEdge.fu = s.fu := rfl
    rw [hcauses, Verdict.mem_causes, State.logFull_iff, hlog]
    cases c <;> simp [FaultUnit.mem_besides, Verdict.reports]
  rw [exec_faultReportTaken hup, State.takeReport_eq (s := s.atEdge) hreports hv hu rfl rfl hmem hlatches]
  refine congrArg (fun t => Host.Outcome.next (State.arbitrate t)) ?_
  unfold State.recorded
  refine State.eq_of_fields ?_ rfl rfl rfl rfl rfl rfl rfl rfl rfl rfl rfl rfl rfl
  show (s.slots.set r.slot.val _).set r.slot.val _ = _
  rw [Vector.set_set]
  congr 1
  rw [State.slot_of_set _ s.slots r.slot _ rfl]
  rfl

/-! A report that holds no slot (R144 to R149). -/

theorem holdVerdict_of_not_holdable {st : Stage} (h : st = .vacant ∨ st = .loaded) (d : FaultDetail) (w : Word) :
    holdVerdict st d w = { applied := .report, holds := false, blocks := false, detail := d, valueB := w } := by
  rcases h with rfl | rfl <;> rfl

theorem programmedVerdict_block_of_not_holdable {st : Stage} (h : st = .vacant ∨ st = .loaded) (d : FaultDetail) (w : Word) :
    programmedVerdict .block st d w = { applied := .block, holds := false, blocks := true, detail := d, valueB := w } := by
  rcases h with rfl | rfl <;> rfl

/-- A slot in HELD gives ALREADY HELD (R149). -/
theorem State.verdict_held {s : State} {r : Report} (hst : (s.slot r.slot).stage = .held) :
    s.verdict r =
      { applied := .alreadyHeld, holds := false
        blocks := decide (r.readback = none) && decide (s.programmed r.kind = .block)
        detail := r.recordDetail.1, valueB := r.recordDetail.2 } := by
  unfold State.verdict
  cases hread : r.readback with
  | none =>
    simp only [hst, if_true, decide_true, Bool.true_and]
    cases s.programmed r.kind <;> rfl
  | some o =>
    simp only [hst, if_true, reduceCtorEq, decide_false, Bool.false_and]
    rfl

/-- Elsewhere a report without a read-back outcome has the programmed response, and one with an outcome the outcome's. -/
theorem State.verdict_programmed {s : State} {r : Report} (hst : (s.slot r.slot).stage ≠ .held) (hread : r.readback = none) :
    s.verdict r = programmedVerdict (s.programmed r.kind) (s.slot r.slot).stage r.recordDetail.1 r.recordDetail.2 := by
  unfold State.verdict
  simp only [hread, if_neg hst]

theorem State.verdict_readback {s : State} {r : Report} {o : ReadbackOutcome} (hst : (s.slot r.slot).stage ≠ .held)
    (hread : r.readback = some o) :
    s.verdict r = readbackVerdict o (s.slot r.slot).stage r.recordDetail.1 r.recordDetail.2 := by
  unfold State.verdict
  simp only [hread, if_neg hst]

/-- The response applied to a report that holds no slot, and whether it blocks (R144 to R150). -/
def State.AppliesWithoutHold (s : State) (r : Report) (st : Stage) (applied : Applied) (blocks : Bool) : Prop :=
  st = .held ∧ applied = .alreadyHeld ∧
      blocks = (decide (r.readback = none) && decide (s.programmed r.kind = .block)) ∨
    st ≠ .held ∧ r.readback = none ∧ s.programmed r.kind = .silent ∧ applied = .silent ∧ blocks = false ∨
    st ≠ .held ∧ r.readback = none ∧ s.programmed r.kind = .report ∧ applied = .report ∧ blocks = false ∨
    (st = .vacant ∨ st = .loaded) ∧ r.readback = none ∧ s.programmed r.kind = .hold ∧ applied = .report ∧ blocks = false ∨
    (st = .vacant ∨ st = .loaded) ∧ r.readback = none ∧ s.programmed r.kind = .block ∧ applied = .block ∧ blocks = true ∨
    (st = .vacant ∨ st = .loaded) ∧ (r.readback = some .holdProgrammed ∨ ∃ k, r.readback = some (.exhausted k)) ∧
      applied = .report ∧ blocks = false ∨
    st ≠ .held ∧ r.readback = some .retried ∧ applied = .retry ∧ blocks = false ∨
    st ≠ .held ∧ r.readback = some (.outOfFrozen .retry) ∧ applied = .retry ∧ blocks = false ∨
    st ≠ .held ∧ r.readback = some (.outOfFrozen .hold) ∧ applied = .hold ∧ blocks = false ∨
    st ≠ .held ∧ r.readback = some .foundHeld ∧ applied = .alreadyHeld ∧ blocks = false

/-- The verdict of a report that holds no slot. -/
theorem State.verdict_without_hold {s : State} {r : Report} {st : Stage} {applied : Applied} {blocks : Bool}
    (hst : st = (s.slot r.slot).stage) (h : s.AppliesWithoutHold r st applied blocks) :
    s.verdict r =
      { applied := applied, holds := false, blocks := blocks
        detail := r.recordDetail.1, valueB := r.recordDetail.2 } := by
  subst hst
  have hnot : (s.slot r.slot).stage = .vacant ∨ (s.slot r.slot).stage = .loaded → (s.slot r.slot).stage ≠ .held := by
    rintro (hst | hst) <;> simp [hst]
  rcases h with ⟨hst, rfl, rfl⟩ | ⟨hst, hread, hp, rfl, rfl⟩ | ⟨hst, hread, hp, rfl, rfl⟩ | ⟨hst, hread, hp, rfl, rfl⟩ |
    ⟨hst, hread, hp, rfl, rfl⟩ | ⟨hst, hread | ⟨k, hread⟩, rfl, rfl⟩ | ⟨hst, hread, rfl, rfl⟩ | ⟨hst, hread, rfl, rfl⟩ |
    ⟨hst, hread, rfl, rfl⟩ | ⟨hst, hread, rfl, rfl⟩
  · exact State.verdict_held hst
  · rw [State.verdict_programmed hst hread, hp]; rfl
  · rw [State.verdict_programmed hst hread, hp]; rfl
  · rw [State.verdict_programmed (hnot hst) hread, hp]; exact holdVerdict_of_not_holdable hst _ _
  · rw [State.verdict_programmed (hnot hst) hread, hp]; exact programmedVerdict_block_of_not_holdable hst _ _
  · rw [State.verdict_readback (hnot hst) hread]; exact holdVerdict_of_not_holdable hst _ _
  · rw [State.verdict_readback (hnot hst) hread]; exact holdVerdict_of_not_holdable hst _ _
  · rw [State.verdict_readback hst hread]; rfl
  · rw [State.verdict_readback hst hread]; rfl
  · rw [State.verdict_readback hst hread]; rfl
  · rw [State.verdict_readback hst hread]; rfl

/-- The record's detail and value B, as the obligations write them. -/
theorem Report.recordDetail_eq (r : Report) :
    r.recordDetail =
      (match r.readback with | some (.exhausted _) => .readbackExhausted | _ => r.detail,
        match r.readback with
        | some (.exhausted k) => BitVec.ofNat 16 (r.detail.code * 256 + k)
        | _ => r.valueB) := by
  unfold Report.recordDetail
  cases r.readback with
  | none => rfl
  | some o => cases o <;> rfl

theorem Verdict.resetsMatch_iff (v : Verdict) (k : FaultKind) :
    v.resetsMatch k = true ↔ v.applied = .report ∧ (k = .index ∨ k = .void) := by
  simp [Verdict.resetsMatch]

/-- What a verdict without a hold does to its slot: the match state of a reported closing starts over (R77). -/
theorem State.applyVerdict_resets (s : State) {r : Report} {v : Verdict} (hholds : v.holds = false) :
    s.applyVerdict r v =
      { s with
        slots := s.slots.set r.slot.val
          { s.slot r.slot with
            keys :=
              if v.applied = .report ∧ (r.kind = .index ∨ r.kind = .void) then Vector.replicate 22 .unwritten
              else (s.slot r.slot).keys
            closingSeen :=
              if v.applied = .report ∧ (r.kind = .index ∨ r.kind = .void) then true else (s.slot r.slot).closingSeen } } := by
  rw [State.applyVerdict_of_not_hold s hholds]
  simp only [Verdict.resetsMatch_iff]
  by_cases h : v.applied = .report ∧ (r.kind = .index ∨ r.kind = .void)
  · simp only [if_pos h]
    rfl
  · simp only [if_neg h]
    rw [State.set_slot_self]

/-- Settles O37: the verdict holds nothing; the record, the causes and the match state follow. -/
theorem faultReportsThatHoldNoSlot : Obligations.FaultReportsThatHoldNoSlot := by
  intro s r rest st applied blocks causes latches hup hreports hst hcase hcauses hlatches
  have hv : s.atEdge.verdict r = _ := State.verdict_without_hold (s := s.atEdge) hst hcase
  have hu := (s.atEdge.withoutReport rest).applyVerdict_resets (r := r)
    (v := { applied := applied, holds := false, blocks := blocks
            detail := r.recordDetail.1, valueB := r.recordDetail.2 }) rfl
  have hmem : ∀ c, c ∈ Verdict.causes
      { applied := applied, holds := false, blocks := blocks, detail := r.recordDetail.1, valueB := r.recordDetail.2 }
      r.kind s.atEdge.logFull (s.fu.bridge == .guarding) ↔ c ∈ causes := by
    intro c
    have hlog : s.atEdge.fu = s.fu := rfl
    rw [hcauses, Verdict.mem_causes, State.logFull_iff, hlog]
    cases c <;> simp [FaultUnit.mem_besides, Verdict.reports]
  rw [exec_faultReportTaken hup, State.takeReport_eq (s := s.atEdge) hreports hv hu rfl rfl hmem hlatches,
    if_neg Bool.false_ne_true]
  refine congrArg Host.Outcome.next ?_
  unfold State.recorded
  rw [Report.recordDetail_eq]
  refine State.eq_of_fields ?_ rfl rfl rfl rfl rfl rfl rfl rfl rfl rfl rfl rfl rfl
  show (s.slots.set r.slot.val _).set r.slot.val _ = _
  rw [Vector.set_set]
  congr 1
  rw [State.slot_of_set _ s.slots r.slot _ rfl]
  rfl

end Sys2Proof.Machine
end

section
/-! SUPPORT. Timers, the timebase, steps and RESET_N (O1 to O4, O34). -/

namespace Sys2Proof.Machine

/-! Single timers (R63, R114, R122). -/

theorem exec_guardTimerExpiry {s : State} (n : Slot) (hup : s.pins.resetLow = false) :
    exec (.guardTimerExpiry n) s = .next (s.atEdge.modSlot n SlotRec.expireGuard) := congrArg _ (s.whenUp_of_up hup _)

theorem exec_retryTimerExpiry {s : State} (n : Slot) (hup : s.pins.resetLow = false) :
    exec (.retryTimerExpiry n) s = .next (s.atEdge.modSlot n SlotRec.expireRetry) := congrArg _ (s.whenUp_of_up hup _)

theorem exec_lockTimerExpiry {s : State} (n : Slot) (hup : s.pins.resetLow = false) :
    exec (.lockTimerExpiry n) s = .next (s.atEdge.expireLockOn n) := congrArg _ (s.whenUp_of_up hup _)

theorem SlotRec.expireGuard_due {r : SlotRec} (h : r.guardTimer = some 0) : r.expireGuard = { r with guardTimer := none } := by
  unfold SlotRec.expireGuard
  rw [if_pos h]

theorem SlotRec.expireRetry_due {r : SlotRec} (h : r.retryTimer = some 0) : r.expireRetry = { r with retryTimer := none } := by
  unfold SlotRec.expireRetry
  rw [if_pos h]

theorem SlotRec.expireGuard_not_due {r : SlotRec} (h : r.guardTimer ≠ some 0) : r.expireGuard = r := by
  unfold SlotRec.expireGuard
  rw [if_neg h]

theorem SlotRec.expireRetry_not_due {r : SlotRec} (h : r.retryTimer ≠ some 0) : r.expireRetry = r := by
  unfold SlotRec.expireRetry
  rw [if_neg h]

/-- A change that leaves a slot's record as it is changes nothing. -/
theorem State.modSlot_of_fixed (s : State) (n : Slot) {f : SlotRec → SlotRec} (h : f (s.slot n) = s.slot n) : s.modSlot n f = s := by
  rw [State.modSlot_eq, h, State.set_slot_self]

/-- The EXPIRED report, with its words written out (R122). -/
theorem State.expiredReport_eq (s : State) (l : Lock) :
    s.expiredReport l =
      { kind := .lock, slot := l.slot, agent := some l.tag, stage := (s.slot l.slot).stage, detail := .lockExpired
        offset := some l.offset, valueA := BitVec.ofNat 16 l.timeout
        valueB := BitVec.ofNat 16 ((s.role l.tag).code * 256), readback := none } := by
  unfold State.expiredReport
  rw [pairWord_zero, toWord]

/-- A lock's row takes its expiry once its last tick has come, and does nothing before. -/
theorem State.expireLockOn_due {s : State} {l : Lock} (hfind : s.lockOn l.slot = some l) (hticks : l.ticks = 0) :
    s.expireLockOn l.slot = s.expireLock l := by
  unfold State.expireLockOn
  simp only [hfind, hticks, if_true]

theorem State.expireLockOn_not_due {s : State} {n : Slot} (h : ∀ l ∈ s.acc.locks, l.slot = n → l.ticks ≠ 0) :
    s.expireLockOn n = s := by
  unfold State.expireLockOn
  split
  case h_1 l hfind =>
    have hslot : (l.slot == n) = true := List.find?_some (p := fun l : Lock => l.slot == n) hfind
    exact if_neg (h l (List.mem_of_find?_eq_some hfind) (by simpa using hslot))
  case h_2 => rfl

/-- Settles O34: a row whose timer is due takes the expiry, any other row changes nothing. -/
theorem timerExpiries : Obligations.TimerExpiries := by
  refine ⟨fun s n hup => ⟨fun h => ?_, fun h => ?_, fun h => ?_, fun h => ?_, fun t h ht => ?_⟩,
    fun s l hup hfind hticks => ?_, fun s n hup h => ?_⟩
  · rw [exec_guardTimerExpiry n hup, State.modSlot_eq, SlotRec.expireGuard_due (r := s.atEdge.slot n) h]
    rfl
  · rw [exec_retryTimerExpiry n hup, State.modSlot_eq, SlotRec.expireRetry_due (r := s.atEdge.slot n) h]
    rfl
  · rw [exec_guardTimerExpiry n hup, State.modSlot_of_fixed s.atEdge n (SlotRec.expireGuard_not_due h)]
    rfl
  · rw [exec_retryTimerExpiry n hup, State.modSlot_of_fixed s.atEdge n (SlotRec.expireRetry_not_due h)]
    rfl
  · rw [exec_guardTimerExpiry n hup] at ht
    obtain rfl := Host.Outcome.next.inj ht
    rw [State.slot_modSlot_self, SlotRec.expireGuard_due (r := s.atEdge.slot n) h]
    rfl
  · rw [exec_lockTimerExpiry l.slot hup, State.expireLockOn_due (s := s.atEdge) hfind hticks]
    unfold State.expireLock
    rw [State.expiredReport_eq]
    rfl
  · rw [exec_lockTimerExpiry n hup, State.expireLockOn_not_due (s := s.atEdge) h]
    rfl

/-! Steps (R185). -/

/-- Settles O1. -/
theorem stepRunsFrontCommand : Obligations.StepRunsFrontCommand := fun _ _ _ => rfl

theorem step_of_empty {s : State} (h : s.pending = []) : step s = .next s.idle := by
  unfold step
  simp only [h]

theorem idle_of_handed {s : State} {w : StageWrite} (hup : s.pins.resetLow = false) (h : s.su.handed = some w) :
    s.idle = s.taking.takeWrite w := by
  unfold State.idle
  rw [State.whenUp_of_up s hup]
  simp only [h]
  rfl

theorem idle_of_free {s : State} (hfree : s.busFree) :
    s.idle = if s.atEdge.expiryDue then s.atEdge.expireAll else s.atEdge.countTick := by
  obtain ⟨hup, hhanded⟩ := hfree
  unfold State.idle
  rw [State.whenUp_of_up s hup]
  simp only [hhanded]
  rfl

/-- Some expiry is due. -/
theorem State.expiryDue_iff (s : State) :
    s.expiryDue = true ↔
      (∃ l ∈ s.acc.locks, l.ticks = 0) ∨
        ∃ n : Slot, (s.slot n).guardTimer = some 0 ∨ (s.slot n).retryTimer = some 0 := by
  unfold State.expiryDue SlotRec.expiryDue State.slot
  simp only [Bool.or_eq_true, List.any_eq_true, beq_iff_eq]
  refine or_congr_right ⟨fun ⟨r, hr, hdue⟩ => ?_, fun ⟨n, hdue⟩ => ?_⟩
  · obtain ⟨i, hi, rfl⟩ := List.getElem_of_mem hr
    exact ⟨⟨i, by simpa using hi⟩, by simpa using hdue⟩
  · exact ⟨s.slots[n.val], Vector.mem_toList_iff.mpr (Vector.getElem_mem n.isLt), hdue⟩

/-- The EXPIRED report of a lock reads of the slots their stages alone. -/
theorem State.expiredReport_mapVector (s : State) (f : SlotRec → SlotRec) (hf : ∀ r, (f r).stage = r.stage) (l : Lock) :
    ({ s with slots := mapVector f s.slots } : State).expiredReport l = s.expiredReport l := by
  have hslot : ({ s with slots := mapVector f s.slots } : State).slot l.slot = f (s.slot l.slot) :=
    mapVector_get f s.slots l.slot
  unfold State.expiredReport
  rw [hslot, hf]
  rfl

/-- The k-th tick of a running timer. -/
theorem tickTimer_iterate (k n : Nat) : tickTimer^[k] (some n) = some (n - k) := by
  induction k generalizing n with
  | zero => rfl
  | succ k ih =>
    rw [Function.iterate_succ_apply]
    show tickTimer^[k] (some (n - 1)) = _
    rw [ih]
    congr 1
    omega

/-- All expiries that are due, taken (R63, R114, R122). -/
theorem State.expireAll_eq {s : State} (h : (s.acc.locks.map Lock.slot).Nodup) :
    s.expireAll =
      { s with
        slots := mapVector (fun r => r.expireGuard.expireRetry) s.slots
        acc := { s.acc with locks := s.acc.locks.filter fun l => l.ticks != 0 }
        fu :=
          { s.fu with reports := s.fu.reports ++ (s.acc.locks.filter fun l => l.ticks == 0).map s.expiredReport } } := by
  have hreports : ({ s with slots := mapVector (fun r => r.expireGuard.expireRetry) s.slots } : State).expiredReport =
      s.expiredReport := funext (s.expiredReport_mapVector (fun r => r.expireGuard.expireRetry) fun _ => rfl)
  unfold State.expireAll
  rw [State.expireLocks_eq, hreports]
  simp only [dueLocks_left _ h]

/-- Settles O2: what an empty queue does, and how long a timer runs. -/
theorem ticksOfTheTimebase : Obligations.TicksOfTheTimebase := by
  refine ⟨fun s hp hlow => ?_, fun s w q c hp hup hhanded hserved => ?_, fun s hp hfree hlocks hdue => ?_,
    fun s hp hfree hlocks htimers => ?_, rfl, fun n hn k hk => ?_⟩
  · rw [step_of_empty hp]
    exact congrArg _ (s.whenUp_of_reset hlow _)
  · have htakes : s.eventTakes w.slot w.tag c q w s.taking := ⟨hup, Or.inr ⟨hhanded, hserved, rfl⟩⟩
    rw [step_of_empty hp, idle_of_handed hup hhanded, (exec_command_of_takes htakes).1]
  · refine ⟨mapVector (fun r => r.expireGuard.expireRetry) s.slots, fun n => mapVector_get _ s.slots n, ?_⟩
    have hreports : s.atEdge.expiredReport = fun l =>
        { kind := .lock, slot := l.slot, agent := some l.tag, stage := (s.slot l.slot).stage
          detail := .lockExpired, offset := some l.offset, valueA := BitVec.ofNat 16 l.timeout
          valueB := BitVec.ofNat 16 ((s.role l.tag).code * 256), readback := none } :=
      funext s.atEdge.expiredReport_eq
    rw [step_of_empty hp, idle_of_free hfree, if_pos (s.atEdge.expiryDue_iff.mpr hdue),
      State.expireAll_eq (s := s.atEdge) hlocks, hreports]
    rfl
  · refine ⟨mapVector SlotRec.tick s.slots, fun n => mapVector_get _ s.slots n, ?_⟩
    have hnot : ¬s.atEdge.expiryDue = true := by
      rw [State.expiryDue_iff]
      rintro (⟨l, hl, hzero⟩ | ⟨n, hzero | hzero⟩)
      · exact hlocks l hl hzero
      · exact (htimers n).1 hzero
      · exact (htimers n).2 hzero
    rw [step_of_empty hp, idle_of_free hfree, if_neg hnot]
    rfl
  · have hstart : timerOf n = some (n + 1) := if_neg (Nat.pos_iff_ne_zero.mp hn)
    rw [hstart, tickTimer_iterate]

/-! RESET_N (R139, R185). -/

/-- Settles O3: every slot's record is that of RESET_N, and the rest is computed. -/
theorem resetValues : Obligations.ResetValues := by
  refine ⟨fun n => ?slots, ?roles, rfl, ?responses, rfl, rfl, rfl, rfl, rfl, ?causes, rfl, rfl, rfl, rfl, rfl, rfl, rfl, rfl,
    rfl, rfl, rfl, rfl, rfl, rfl, rfl, rfl, by decide +kernel⟩
  case slots =>
    rw [State.blank_reset.slot n]
    exact ⟨rfl, rfl, rfl, rfl, by decide, rfl, rfl, rfl, rfl, rfl, rfl, by decide, rfl, rfl, rfl, rfl, rfl, rfl⟩
  case roles => decide
  case responses =>
    intro k
    cases k <;> rfl
  case causes =>
    intro c
    cases c <;> exact ⟨rfl, rfl⟩

/-- A byte that the assertion of RESET_N touches belongs to the write it cuts off, and is the old one or the new one (R139). -/
theorem State.read_cutOff (s : State) (hwf : s.mem.wf) (x : Nat) :
    s.cutOff.mem.read x = s.mem.read x ∨
      (∃ e rest, s.mp.op = some .queueHead ∧ s.mp.queue = e :: rest ∧ e.wr = true ∧
        (e.pa ≤ x ∧ x < e.pa + e.data.length) ∧ s.cutOff.mem.read x = e.data.getD (x - e.pa) 0#8) ∨
      ∃ n k pa b, s.mp.op = some (.sweepBurst n k pa b) ∧ (pa ≤ x ∧ x < pa + 64) ∧ s.cutOff.mem.read x = 0#8 := by
  unfold State.cutOff
  split
  case h_1 e rest hop hqueue =>
    split
    case isTrue hwr =>
      rcases s.read_tear e.pa x e.data hwf with h | ⟨hin, h⟩
      · exact Or.inl h
      · exact Or.inr (Or.inl ⟨e, rest, hop, hqueue, hwr, hin, h⟩)
    case isFalse => exact Or.inl rfl
  case h_2 n k pa b hop =>
    have hlength : (zeroBytes 64).length = 64 := List.length_replicate
    rcases s.read_tear pa x (zeroBytes 64) hwf with h | ⟨hin, h⟩
    · exact Or.inl h
    · rw [hlength] at hin
      refine Or.inr (Or.inr ⟨n, k, pa, b, hop, hin, h.trans ?_⟩)
      rw [zeroBytes, List.getD_replicate _ (by omega)]
  case h_3 => exact Or.inl rfl

/-- Settles O4: the assertion, what it cuts off, the release, and the silence between. -/
theorem resetPinHoldsTheBridge : Obligations.ResetPinHoldsTheBridge := by
  refine ⟨⟨fun s => ?_, fun s hwf x => ?_, fun s adr msize hlow => ?_⟩, fun s c => exec_of_reset c s⟩
  · show Host.Outcome.next s.cutOff.assertReset = _
    rw [State.cutOff_eq]
    rfl
  · rcases s.read_cutOff hwf x with h | ⟨e, rest, hop, hqueue, hwr, hin, h⟩ | ⟨n, k, pa, b, hop, hin, h⟩
    · exact Or.inl h
    · rw [hop, hqueue]
      exact Or.inr ⟨hwr, hin.1, hin.2, h⟩
    · rw [hop]
      exact Or.inr ⟨hin.1, hin.2, h⟩
  · exact congrArg Host.Outcome.next (if_pos hlow)

end Sys2Proof.Machine
end

section
/-! SUPPORT. The management line: transactions, the bytes of the items, and words coming in (chapter 11, sections 11.1 and 11.2; O38 to O40). -/

namespace Sys2Proof.Machine

/-! Transactions (R167, R168, R172). -/

theorem exec_targetAddressByte {s : State} (address : BitVec 7) (x : LineStart) (hup : s.pins.resetLow = false) :
    exec (.targetAddressByte address x) s = .next (s.atEdge.lineStart address x) := congrArg _ (s.whenUp_of_up hup _)

theorem exec_itemByte {s : State} (b : Byte) (hup : s.pins.resetLow = false) :
    exec (.itemByte b) s = .next { s.atEdge with mi := s.mi.takeItemByte b } := congrArg _ (s.whenUp_of_up hup _)

/-- The bridge's own address is 34h plus the ADR code (R167). -/
theorem State.eq_ownAddress_iff (s : State) (address : BitVec 7) :
    address = s.ownAddress ↔ address.toNat = 0x34 + s.pins.adr.toNat := by
  have hadr := s.pins.adr.isLt
  have hown : s.ownAddress.toNat = 0x34 + s.pins.adr.toNat := by
    unfold State.ownAddress
    rw [BitVec.toNat_add, BitVec.toNat_setWidth, BitVec.toNat_ofNat]
    omega
  rw [← hown]
  exact ⟨congrArg BitVec.toNat, BitVec.eq_of_toNat_eq⟩

/-- The item an item byte names (R168). -/
theorem Item.ofByte_eq (b : Byte) :
    Item.ofByte b =
      [Item.portalControl, .portalData, .portalStatus, .alertCause, .alertEnable, .bridgeStatus, .command][b.toNat]? := by
  by_cases h : b.toNat < 7
  · obtain ⟨k, hk⟩ : ∃ k, b.toNat = k := ⟨_, rfl⟩
    have hb : b = BitVec.ofNat 8 k := by rw [← hk, BitVec.ofNat_toNat, BitVec.setWidth_eq]
    rw [hk] at h
    rw [hk, hb]
    interval_cases k <;> rfl
  · have hne : ∀ k < 7, b ≠ BitVec.ofNat 8 k := by
      rintro k hk rfl
      rw [BitVec.toNat_ofNat] at h
      omega
    rw [List.getElem?_eq_none (Nat.le_of_not_lt h)]
    unfold Item.ofByte
    rw [if_neg (hne 0 (by decide)), if_neg (hne 1 (by decide)), if_neg (hne 2 (by decide)), if_neg (hne 3 (by decide)),
      if_neg (hne 4 (by decide)), if_neg (hne 5 (by decide)), if_neg (hne 6 (by decide))]

/-- Settles O38: the address byte, the item byte, and the end. -/
theorem transactionsOnTheLine : Obligations.TransactionsOnTheLine := by
  intro s hup
  refine ⟨fun address h => ⟨?_, ?_⟩, fun address x h hx => ?_, fun b i h => ?_, fun b h => ?_, ?_⟩
  · rw [exec_targetAddressByte _ _ hup]
    exact congrArg Host.Outcome.next (if_pos ((s.eq_ownAddress_iff address).mpr h))
  · rw [exec_targetAddressByte _ _ hup]
    exact congrArg Host.Outcome.next (if_pos ((s.eq_ownAddress_iff address).mpr h))
  · rw [exec_targetAddressByte _ _ hup]
    have hother : ∀ read, s.atEdge.addressByte address read = _ := fun read =>
      if_neg (mt (s.eq_ownAddress_iff address).mp h)
    cases x with
    | writes => exact congrArg Host.Outcome.next (hother false)
    | reads => exact congrArg Host.Outcome.next (hother true)
    | firstByte => exact absurd rfl hx
  · rw [exec_itemByte b hup, Management.takeItemByte, Item.ofByte_eq, h]
    rfl
  · have hnone : [Item.portalControl, .portalData, .portalStatus, .alertCause, .alertEnable, .bridgeStatus,
        .command][b.toNat]? = none := List.getElem?_eq_none h
    rw [exec_itemByte b hup, Management.takeItemByte, Item.ofByte_eq, hnone]
    rfl
  · exact congrArg Host.Outcome.next (s.whenUp_of_up hup _)

/-! The bytes of the items (R171). -/

theorem State.slots_toList (s : State) : s.slots.toList = (List.finRange 64).map s.slot := by
  apply List.ext_getElem
  · simp
  · intro i h1 h2
    simp [State.slot]

theorem State.length_slotsIn (s : State) (p : Stage → Bool) :
    (s.slotsIn p).length = (List.finRange 64).countP fun n => p (s.slot n).stage := by
  unfold State.slotsIn
  rw [← List.countP_eq_length_filter, s.slots_toList, List.countP_map]
  rfl

/-- BRIDGE STATUS, byte by byte (R171). -/
theorem State.bridgeStatus_eq (s : State) :
    s.bridgeStatus =
      [if s.fu.bridge = .blocked then 1#8 else 0#8,
       BitVec.ofNat 8 (s.pins.msize.toNat + 4 * s.pins.adr.toNat),
       BitVec.ofNat 8 s.fu.log.length,
       if s.fu.overflow then 1#8 else 0#8,
       BitVec.ofNat 8 s.su.verified.length,
       BitVec.ofNat 8 s.sw.queue.length,
       BitVec.ofNat 8 ((List.finRange 64).countP fun n => (s.slot n).stage == .held),
       BitVec.ofNat 8 ((List.finRange 64).countP fun n => (s.slot n).stage != .vacant)] := by
  have hbridge : toByte s.fu.bridge.code = if s.fu.bridge = .blocked then 1#8 else 0#8 := by
    cases s.fu.bridge <;> rfl
  have hoverflow : toByte (flagBit s.fu.overflow 0) = if s.fu.overflow then 1#8 else 0#8 := by
    cases s.fu.overflow <;> rfl
  unfold State.bridgeStatus State.heldCount State.nonVacantCount
  rw [hbridge, hoverflow, State.length_slotsIn, State.length_slotsIn]
  rfl

/-- The bits of ALERT ENABLE (R163). -/
theorem enableWord_bits (b0 b1 b2 b3 b4 b5 b6 : Bool) :
    let w := toWord (0 + flagBit b0 0 + flagBit b1 1 + flagBit b2 2 + flagBit b3 3 + flagBit b4 4 + flagBit b5 5 + flagBit b6 6)
    hiByte w = 0#8 ∧ (loByte w).getLsbD 0 = b0 ∧ (loByte w).getLsbD 1 = b1 ∧ (loByte w).getLsbD 2 = b2 ∧
      (loByte w).getLsbD 3 = b3 ∧ (loByte w).getLsbD 4 = b4 ∧ (loByte w).getLsbD 5 = b5 ∧ (loByte w).getLsbD 6 = b6 ∧
      (loByte w).getLsbD 7 = false := by
  revert b0 b1 b2 b3 b4 b5 b6
  decide

/-- The first byte of a read chooses the item's bytes. -/
theorem State.lineStart_firstByte {s : State} {address : BitVec 7} (h : address.toNat = 0x34 + s.pins.adr.toNat)
    (hline : s.mi.line = .reading) (hout : s.mi.out = []) :
    s.lineStart address .firstByte = { s with mi := { s.mi with out := s.itemBytes s.mi.item } } := by
  show (if address = s.ownAddress then s.firstByte else s) = _
  rw [if_pos ((s.eq_ownAddress_iff address).mpr h)]
  exact if_pos ⟨hline, hout⟩

/-- Settles O39: the bytes by item, and the first bytes that choose nothing. -/
theorem itemsShowTheirBytes : Obligations.ItemsShowTheirBytes := by
  refine ⟨fun s address hup h hline hout => ?_, fun s address hup h => ?_⟩
  · refine ⟨s.itemBytes s.mi.item, ?_, fun hi => ?_, fun hi => ?_, fun hi => ?_, fun hi => ?_, fun hi => ?_, fun hi => ?_⟩
    · rw [exec_targetAddressByte _ _ hup, State.lineStart_firstByte (s := s.atEdge) h hline hout]
      rfl
    · rw [hi]; rfl
    · rw [hi]
      show wordBytes s.mi.status.word = _
      cases s.mi.status <;> rfl
    · obtain ⟨hhi, h0, h1, h2, h3, h4, h5, h6, h7⟩ := enableWord_bits s.fu.enables[0] s.fu.enables[1] s.fu.enables[2]
        s.fu.enables[3] s.fu.enables[4] s.fu.enables[5] s.fu.enables[6]
      refine ⟨loByte (enableWord s.fu.enables), ?_, h7, fun c => ?_⟩
      · rw [hi]
        exact congrArg (fun b => [b, loByte (enableWord s.fu.enables)]) hhi
      · cases c with
        | blockEntered => exact h0
        | memoryError => exact h1
        | slotHeld => exact h2
        | logOverflow => exact h3
        | faultReported => exact h4
        | slotVerified => exact h5
        | sweepDone => exact h6
    · rw [hi]; exact s.bridgeStatus_eq
    · rw [hi]; rfl
    · rcases hi with hi | hi
      · rw [hi]; rfl
      · rw [hi]; rfl
  · rw [exec_targetAddressByte _ _ hup]
    refine congrArg Host.Outcome.next ?_
    show (if address = s.atEdge.ownAddress then s.atEdge.firstByte else s.atEdge) = s.atEdge
    rcases h with h | h
    · exact if_neg (mt (s.eq_ownAddress_iff address).mp h)
    · have hfirst : s.atEdge.firstByte = s.atEdge := if_neg fun ⟨hline, hout⟩ => h.elim (· hline) (· hout)
      rw [hfirst, ite_self]

/-! Words coming in (R169). -/

theorem Management.intake_of_writing {m : Management} {i : Item} (w : WordIn) (hline : m.line = .writing) (hitem : m.item = i) :
    m.intake i w = m.intakeHere i w := by
  have hhere : m.writingTo i = true := by simp [Management.writingTo, hline, hitem]
  exact if_pos hhere

theorem Management.roomForWord_iff (m : Management) (i : Item) : m.roomForWord i = true ↔ i = .portalData ∨ m.bytePos = 0 := by
  simp [Management.roomForWord]

/-- A half word that a row takes in changes the line alone. -/
theorem State.whenUp_intake_of_half {s : State} {i : Item} {w : WordIn} {m : Management} (act : State → Word → State)
    (hup : s.pins.resetLow = false) (h : s.mi.intake i w = (m, none)) :
    (s.whenUp fun s => s.intake i w act) = s.tookIn m := by
  rw [State.whenUp_of_up s hup]
  exact State.intake_of_half _ _ _ _ _ h

theorem State.whenUp_commandRow_of_half {s : State} {w : WordIn} {m : Management} (code : Word) (act : State → State)
    (hup : s.pins.resetLow = false) (h : s.mi.intake .command w = (m, none)) :
    (s.whenUp fun s => s.commandRow code w act) = s.tookIn m := by
  rw [State.whenUp_of_up s hup]
  unfold State.commandRow
  simp only [h]
  rfl

theorem State.whenUp_portalRow_of_half {s : State} {w : WordIn} {m : Management} {k : PortalWrite}
    (act : State → Word → State) (hup : s.pins.resetLow = false) (h : s.mi.intake .portalData w = (m, none))
    (hrow : s.mi.portalWrite = k) : (s.whenUp fun s => s.portalRow k w act) = s.tookIn m := by
  rw [State.whenUp_of_up s hup]
  unfold State.portalRow
  rw [if_pos hrow]
  exact State.intake_of_half _ _ _ _ _ h

/-- Settles O40: the four forms within a transaction, and the rows that a half word leaves as they were. -/
theorem halfWordsChangeNothing : Obligations.HalfWordsChangeNothing := by
  refine ⟨fun m i hline hitem => ⟨fun b hpartial hroom => ?_, fun h b hpartial => ?_, fun v hpartial hroom => ?_,
    fun b v hpartial hdata hpos => ?_⟩, fun s w m hup => ⟨fun h => ?_, fun h => ?_, fun h c hc => ?_, fun h c hc hrow => ?_⟩⟩
  · rw [Management.intake_of_writing _ hline hitem]
    unfold Management.intakeHere
    simp only [hpartial, (m.roomForWord_iff i).mpr hroom, if_true]
  · rw [Management.intake_of_writing _ hline hitem]
    unfold Management.intakeHere
    simp only [hpartial, joinBytes_eq]
  · rw [Management.intake_of_writing _ hline hitem]
    unfold Management.intakeHere
    simp only [hpartial, (m.roomForWord_iff i).mpr hroom, if_true]
  · have hroom : m.roomForWord i = false := by
      rw [← Bool.not_eq_true, m.roomForWord_iff]
      exact not_or.mpr ⟨hdata, hpos⟩
    rw [Management.intake_of_writing _ hline hitem, Management.intake_of_writing _ hline hitem]
    unfold Management.intakeHere
    simp only [hpartial, hroom, Bool.false_eq_true, if_false, and_self]
  · exact congrArg Host.Outcome.next (State.whenUp_intake_of_half State.setPortalControl hup h)
  · exact congrArg Host.Outcome.next (State.whenUp_intake_of_half _ hup h)
  · simp only [List.mem_cons, List.not_mem_nil, or_false] at hc
    rcases hc with rfl | rfl | rfl | rfl
    all_goals exact congrArg Host.Outcome.next (State.whenUp_commandRow_of_half _ _ hup h)
  · simp only [List.mem_cons, List.not_mem_nil, or_false] at hc
    rcases hc with rfl | rfl | rfl | rfl | rfl | rfl | rfl
    all_goals exact congrArg Host.Outcome.next (State.whenUp_portalRow_of_half _ hup h hrow)

end Sys2Proof.Machine
end

section
/-! SUPPORT. Words written to PORTAL CONTROL and PORTAL DATA (chapter 11, section 11.3; O41, O42, O45). -/

namespace Sys2Proof.Machine

/-! Words and their bytes. -/

theorem hiByte_toNat (w : Word) : (hiByte w).toNat = w.toNat / 256 := by
  have hw := w.isLt
  unfold hiByte
  rw [BitVec.toNat_setWidth, BitVec.toNat_ushiftRight, Nat.shiftRight_eq_div_pow]
  omega

theorem loByte_toNat (w : Word) : (loByte w).toNat = w.toNat % 256 := BitVec.toNat_setWidth ..

theorem byte_eq_ofNat {b : Byte} {k : Nat} (h : b.toNat = k) : b = BitVec.ofNat 8 k := by
  rw [← h, BitVec.ofNat_toNat, BitVec.setWidth_eq]

theorem word_eq_ofNat {w : Word} {k : Nat} (h : w.toNat = k) : w = BitVec.ofNat 16 k := by
  rw [← h, BitVec.ofNat_toNat, BitVec.setWidth_eq]

/-! PORTAL CONTROL (R173). -/

theorem PortalMode.ofByte_code (mode : PortalMode) : PortalMode.ofByte (BitVec.ofNat 8 mode.code) = some mode := by
  cases mode <;> rfl

theorem PortalMode.ofByte_eq_none {b : Byte} (h : 4 ≤ b.toNat) : PortalMode.ofByte b = none := by
  have hne : ∀ k < 4, b ≠ BitVec.ofNat 8 k := by
    rintro k hk rfl
    rw [BitVec.toNat_ofNat] at h
    omega
  unfold PortalMode.ofByte
  rw [if_neg (hne 0 (by decide)), if_neg (hne 1 (by decide)), if_neg (hne 2 (by decide)), if_neg (hne 3 (by decide))]

/-- The mode's code is its place in the list of modes. -/
theorem PortalMode.idxOf_eq_code (mode : PortalMode) :
    [PortalMode.address, .data, .dataStep, .dataStepWrite].idxOf mode = mode.code := by
  cases mode <;> rfl

theorem State.setPortalControl_taken (s : State) {v : Word} {t : Fin 8} {mode : PortalMode}
    (hv : v.toNat = t.val * 256 + mode.code) :
    s.setPortalControl v = { s with mi := { s.mi with table := t, mode := mode, status := .ok } } := by
  have hcode : mode.code < 4 := by cases mode <;> decide
  have hhigh : (hiByte v).toNat = t.val := by rw [hiByte_toNat]; omega
  have hlow : PortalMode.ofByte (loByte v) = some mode := by
    have hcodes : (loByte v).toNat = mode.code := by rw [loByte_toNat]; omega
    rw [byte_eq_ofNat hcodes, PortalMode.ofByte_code]
  unfold State.setPortalControl
  rw [dif_pos (hhigh.symm ▸ t.isLt), hlow]
  have htable : (⟨(hiByte v).toNat, hhigh.symm ▸ t.isLt⟩ : Fin 8) = t := Fin.ext hhigh
  simp only [htable]

theorem State.setPortalControl_refused (s : State) {v : Word} (hv : 8 ≤ v.toNat / 256 ∨ 4 ≤ v.toNat % 256) :
    s.setPortalControl v = s.setStatus .refusedRange := by
  unfold State.setPortalControl
  by_cases hhigh : (hiByte v).toNat < 8
  · have hlow : PortalMode.ofByte (loByte v) = none := by
      refine PortalMode.ofByte_eq_none ?_
      rw [loByte_toNat]
      rw [hiByte_toNat] at hhigh
      omega
    rw [dif_pos hhigh, hlow]
  · rw [dif_neg hhigh]

theorem exec_portalControl_of_word {s : State} {w : WordIn} {m : Management} {v : Word} (hup : s.pins.resetLow = false)
    (hword : s.mi.intake .portalControl w = (m, some v)) :
    exec (.portalControl w) s = .next ((s.tookIn m).setPortalControl v) := by
  refine congrArg Host.Outcome.next ?_
  rw [State.whenUp_of_up s hup]
  exact State.intake_of_word _ _ _ _ _ _ hword

/-! The row of a word (R174 to R177, log 18). -/

theorem Management.inTable_iff (m : Management) : m.inTable = true ↔ m.addr < portalSize m.table := by
  unfold Management.inTable
  rw [decide_eq_true_iff, tableSize_eq]

theorem Management.portalWrite_of_address {m : Management} (hmode : m.mode = .address) : m.portalWrite = .address := if_pos hmode

theorem Management.portalWrite_beyond {m : Management} (hmode : m.mode ≠ .address) (haddr : portalSize m.table ≤ m.addr) :
    m.portalWrite = .refused := by
  have hout : m.inTable = false := by rw [← Bool.not_eq_true, m.inTable_iff]; omega
  unfold Management.portalWrite
  rw [if_neg hmode, hout]
  rfl

/-- The rows of the words that tables 2, 3 and 4 take. -/
theorem Management.portalWrite_of_table {m : Management} (hmode : m.mode ≠ .address) (haddr : m.addr < portalSize m.table) :
    (m.table = 2 → m.portalWrite = .role) ∧ (m.table = 3 → m.portalWrite = .response) ∧
      (m.table = 4 → m.portalWrite = .timing) := by
  have hin : m.inTable = true := m.inTable_iff.mpr haddr
  unfold Management.portalWrite
  refine ⟨fun h => ?_, fun h => ?_, fun h => ?_⟩
  all_goals
    rw [if_neg hmode, hin, h]
    rfl

/-- The read-only words of the tables. -/
theorem Management.portalWrite_readOnly {m : Management} (hmode : m.mode ≠ .address) (haddr : m.addr < portalSize m.table)
    (h : m.table ∈ [(1 : Fin 8), 5, 6, 7] ∨ m.table = 0 ∧ m.addr % 16 = 15) : m.portalWrite = .refused := by
  have hin : m.inTable = true := m.inTable_iff.mpr haddr
  unfold Management.portalWrite
  rw [if_neg hmode, hin, if_neg (by decide)]
  rcases h with h | ⟨htable, hlast⟩
  · simp only [List.mem_cons, List.not_mem_nil, or_false] at h
    rcases h with h | h | h | h
    all_goals
      rw [h]
      rfl
  · rw [htable, hlast]
    rfl

theorem exec_portalAddressWrite_of_word {s : State} {w : WordIn} {m : Management} {v : Word} (hup : s.pins.resetLow = false)
    (hword : s.mi.intake .portalData w = (m, some v)) (hrow : s.mi.portalWrite = .address) :
    exec (.portalAddressWrite w) s = .next ((s.tookIn m).setPortalAddress v) :=
  congrArg _ (State.whenUp_portalRow_of_word s _ w _ m v hup hword hrow)

theorem exec_agentRoleWrite_of_word {s : State} {w : WordIn} {m : Management} {v : Word} (hup : s.pins.resetLow = false)
    (hword : s.mi.intake .portalData w = (m, some v)) (hrow : s.mi.portalWrite = .role) :
    exec (.agentRoleWrite w) s = .next ((s.tookIn m).writeRole v) :=
  congrArg _ (State.whenUp_portalRow_of_word s _ w _ m v hup hword hrow)

theorem exec_faultResponseWrite_of_word {s : State} {w : WordIn} {m : Management} {v : Word} (hup : s.pins.resetLow = false)
    (hword : s.mi.intake .portalData w = (m, some v)) (hrow : s.mi.portalWrite = .response) :
    exec (.faultResponseWrite w) s = .next ((s.tookIn m).writeResponse v) :=
  congrArg _ (State.whenUp_portalRow_of_word s _ w _ m v hup hword hrow)

theorem exec_timingWrite_of_word {s : State} {w : WordIn} {m : Management} {v : Word} (hup : s.pins.resetLow = false)
    (hword : s.mi.intake .portalData w = (m, some v)) (hrow : s.mi.portalWrite = .timing) :
    exec (.timingWrite w) s = .next ((s.tookIn m).writeTiming v) :=
  congrArg _ (State.whenUp_portalRow_of_word s _ w _ m v hup hword hrow)

/-- Taking a word in leaves the selection alone. -/
theorem Management.table_of_intake {m₀ m : Management} {i : Item} {w : WordIn} {r : Option Word}
    (h : m₀.intake i w = (m, r)) : m.table = m₀.table ∧ m.mode = m₀.mode := by
  obtain ⟨htable, hmode, -, -⟩ := m₀.intake_portal i w
  rw [h] at htable hmode
  exact ⟨htable, hmode⟩

/-! The row of a word that is read (log 18). -/

theorem Management.portalRead_plain {m : Management} (h : m.mode = .address ∨ m.table ≠ 5 ∧ m.table ≠ 6) :
    m.portalRead = .plain := by
  unfold Management.portalRead
  split
  case isTrue => rfl
  case isFalse hmode =>
    obtain ⟨h5, h6⟩ := h.resolve_left hmode
    split
    case h_1 hval => exact absurd (Fin.ext hval) h5
    case h_2 hval => exact absurd (Fin.ext hval) h6
    case h_3 => rfl

theorem Management.portalRead_log {m : Management} (hmode : m.mode ≠ .address) (h : m.table = 5) : m.portalRead = .log := by
  unfold Management.portalRead
  rw [if_neg hmode, h]
  rfl

theorem Management.portalRead_verified {m : Management} (hmode : m.mode ≠ .address) (h : m.table = 6) :
    m.portalRead = .verified := by
  unfold Management.portalRead
  rw [if_neg hmode, h]
  rfl

theorem exec_portalDataRead {s : State} (p : ReadPart) (hup : s.pins.resetLow = false) (h : s.mi.portalRead = .plain) :
    exec (.portalDataRead p) s = .next
      (s.atEdge.readRow .portalData p 2 State.choosePortalWord Sending.isPortalWord State.finishPortalWord) :=
  congrArg Host.Outcome.next ((s.whenUp_of_up hup _).trans (if_pos h))

theorem exec_custodyLogRead {s : State} (p : ReadPart) (hup : s.pins.resetLow = false) (h : s.mi.portalRead = .log) :
    exec (.custodyLogRead p) s = .next
      (s.atEdge.readRow .portalData p 2 State.chooseLogWord Sending.isLogWord State.finishLogWord) :=
  congrArg Host.Outcome.next ((s.whenUp_of_up hup _).trans (if_pos h))

theorem exec_verifiedQueueRead {s : State} (p : ReadPart) (hup : s.pins.resetLow = false) (h : s.mi.portalRead = .verified) :
    exec (.verifiedQueueRead p) s = .next
      (s.atEdge.readRow .portalData p 2 State.chooseVerifiedWord Sending.isVerifiedWord State.finishVerifiedWord) :=
  congrArg Host.Outcome.next ((s.whenUp_of_up hup _).trans (if_pos h))

theorem exec_alertCause {s : State} (p : ReadPart) (hup : s.pins.resetLow = false) :
    exec (.alertCause p) s = .next
      (s.atEdge.readRow .alertCause p 1 State.chooseCause Sending.isCause State.unlatchSent) :=
  congrArg Host.Outcome.next (s.whenUp_of_up hup _)

/-! Words beyond the table (R174). -/

/-- A read row's end beyond the table is refused; neither its own value nor the table's state comes in. -/
theorem exec_read_beyond {s : State} {x : Sending} {read : ReadPart → Instr}
    (hrow : read = .portalDataRead ∧ s.mi.table ≠ 5 ∧ s.mi.table ≠ 6 ∧ x = .portalWord ∨
      read = .custodyLogRead ∧ s.mi.table = 5 ∧ (∃ found, x = .logWord found) ∨
      read = .verifiedQueueRead ∧ s.mi.table = 6 ∧ ∃ head gone, x = .verifiedWord head gone)
    (hup : s.pins.resetLow = false) (hmode : s.mi.mode ≠ .address) (haddr : portalSize s.mi.table ≤ s.mi.addr)
    (hsending : s.mi.sending = some x) :
    exec (read .sent) s = .next
      { s with
        mi := { s.mi with status := .refusedAddress, sending := none, bytePos := s.mi.bytePos + 2 }
        out := BusOut.quiet } := by
  have hout : s.atEdge.mi.inTable = false := by
    rw [← Bool.not_eq_true, Management.inTable_iff]
    exact Nat.not_lt.mpr haddr
  rcases hrow with ⟨rfl, h5, h6, rfl⟩ | ⟨rfl, h5, found, rfl⟩ | ⟨rfl, h6, head, gone, rfl⟩
  · have hfinish : s.atEdge.finishPortalWord .portalWord = s.atEdge.setStatus .refusedAddress := by
      unfold State.finishPortalWord
      rw [if_neg (show ¬s.atEdge.mi.mode = .address from hmode), hout]
      rfl
    rw [exec_portalDataRead .sent hup (Management.portalRead_plain (Or.inr ⟨h5, h6⟩)),
      State.readRow_sent s.atEdge _ _ _ _ _ _ hsending rfl, hfinish]
    rfl
  · have hfinish : s.atEdge.finishLogWord (.logWord found) = s.atEdge.setStatus .refusedAddress := by
      unfold State.finishLogWord
      rw [hout]
      rfl
    rw [exec_custodyLogRead .sent hup (Management.portalRead_log hmode h5),
      State.readRow_sent s.atEdge _ _ _ _ _ _ hsending rfl, hfinish]
    rfl
  · have hfinish : s.atEdge.finishVerifiedWord (.verifiedWord head gone) = s.atEdge.setStatus .refusedAddress := by
      unfold State.finishVerifiedWord
      rw [hout]
      rfl
    rw [exec_verifiedQueueRead .sent hup (Management.portalRead_verified hmode h6),
      State.readRow_sent s.atEdge _ _ _ _ _ _ hsending rfl, hfinish]
    rfl

/-- A word written beyond the table (R174, R175). -/
theorem exec_write_beyond {s : State} {w : WordIn} {m : Management} {v : Word} (hup : s.pins.resetLow = false)
    (hword : s.mi.intake .portalData w = (m, some v)) (hmode : s.mi.mode ≠ .address)
    (haddr : portalSize s.mi.table ≤ s.mi.addr) :
    exec (.readOnly (.portalWord w)) s = .next { s with mi := { m with status := .refusedAddress }, out := BusOut.quiet } := by
  have hout : ¬(s.tookIn m).mi.inTable = true := by
    rw [State.mi_tookIn, Management.inTable_of_intake hword, Management.inTable_iff]
    exact Nat.not_lt.mpr haddr
  rw [exec_readOnly_of_word s w m v hup hword (Management.portalWrite_beyond hmode haddr), State.refuseWord, if_neg hout,
    State.setStatus_tookIn]

/-- Settles O41: table and mode taken or refused, and what becomes of words beyond the table. -/
theorem portalControlSelects : Obligations.PortalControlSelects := by
  intro s w m v hup
  refine ⟨fun hword => ⟨fun t mode hv => ?_, fun hv => ?_⟩, fun hword hmode haddr => exec_write_beyond hup hword hmode haddr,
    fun read x hrow hmode haddr hsending => exec_read_beyond hrow hup hmode haddr hsending⟩
  · rw [PortalMode.idxOf_eq_code] at hv
    rw [exec_portalControl_of_word hup hword, State.setPortalControl_taken _ hv, ← Management.addr_of_intake hword]
    rfl
  · obtain ⟨htable, hmode⟩ := Management.table_of_intake hword
    rw [exec_portalControl_of_word hup hword, State.setPortalControl_refused _ hv, ← Management.addr_of_intake hword,
      ← htable, ← hmode]
    rfl

/-! Addresses and read-only words (R168, R169, R174, R175). -/

/-- Settles O42: the address, the read-only word, the stray byte. -/
theorem addressWritesAndRefusedWrites : Obligations.AddressWritesAndRefusedWrites := by
  intro s hup
  refine ⟨fun w m v hword => ⟨fun hmode hv => ?_, fun hmode hv => ?_, fun hmode haddr h => ?_⟩, fun b h => ?_⟩
  · have hin : v.toNat < tableSize (s.tookIn m).mi.table := by
      rw [State.mi_tookIn, (Management.table_of_intake hword).1, tableSize_eq]; exact hv
    rw [exec_portalAddressWrite_of_word hup hword (Management.portalWrite_of_address hmode), State.setPortalAddress,
      if_pos hin]
    rfl
  · have hout : ¬v.toNat < tableSize (s.tookIn m).mi.table := by
      rw [State.mi_tookIn, (Management.table_of_intake hword).1, tableSize_eq]; exact Nat.not_lt.mpr hv
    rw [exec_portalAddressWrite_of_word hup hword (Management.portalWrite_of_address hmode), State.setPortalAddress,
      if_neg hout]
    rfl
  · have hin : (s.tookIn m).mi.inTable = true := by
      rw [State.mi_tookIn, Management.inTable_of_intake hword, Management.inTable_iff]; exact haddr
    rw [exec_readOnly_of_word s w m v hup hword (Management.portalWrite_readOnly hmode haddr h), State.refuseWord, if_pos hin,
      State.setStatus_tookIn]
  · have hreadOnly : ∀ i ∈ [Item.portalStatus, .alertCause, .bridgeStatus], i.isReadOnly = true := by decide
    have hstray : s.mi.strayByte = true := by
      unfold Management.strayByte
      rcases h with h | ⟨hline, hitem | ⟨hdata, hpos⟩⟩
      · simp [h]
      · simp [hline, hreadOnly _ hitem]
      · simp [hline, hdata, hpos]
    exact congrArg Host.Outcome.next ((s.whenUp_of_up hup _).trans (if_pos hstray))

/-! Roles, responses and timing values (R19, R66, R143, R180). -/

theorem Role.ofWord_code (r : Role) : Role.ofWord (BitVec.ofNat 16 r.code) = some r := by
  cases r <;> rfl

theorem Role.ofWord_eq_none {v : Word} (h : 7 ≤ v.toNat) : Role.ofWord v = none := by
  have hne : ∀ k < 7, v ≠ BitVec.ofNat 16 k := by
    rintro k hk rfl
    rw [BitVec.toNat_ofNat] at h
    omega
  unfold Role.ofWord
  rw [if_neg (hne 0 (by decide)), if_neg (hne 1 (by decide)), if_neg (hne 2 (by decide)), if_neg (hne 3 (by decide)),
    if_neg (hne 4 (by decide)), if_neg (hne 5 (by decide)), if_neg (hne 6 (by decide))]

theorem Response.ofWord_code (r : Response) : Response.ofWord (BitVec.ofNat 16 r.code) = some r := by
  cases r <;> rfl

theorem Response.toNat_of_ofWord {v : Word} {r : Response} (h : Response.ofWord v = some r) : v.toNat = r.code := by
  unfold Response.ofWord at h
  split_ifs at h with h1 h2 h3 h4 h5
  all_goals obtain rfl := Option.some.inj h
  · rw [h1]; rfl
  · rw [h2]; rfl
  · rw [h3]; rfl
  · rw [h4]; rfl
  · rw [h5]; rfl

/-- The responses that may be programmed, by the entry of the fault response table (R142, column Allowed). -/
def allowedResponses : List (List Response) :=
  [[.silent, .report, .block], [.silent, .report, .block], [.report, .hold, .block], [.report, .hold, .block],
    [.silent, .report, .hold], [.report, .hold], [.report, .hold], [.hold, .block], [.report, .hold],
    [.retry, .hold], [.silent, .report, .hold], [.hold, .block]]

theorem FaultKind.allows_iff {k : Nat} (hk : k < 12) (r : Response) :
    (FaultKind.ofEntry k).allows r = true ↔ r ∈ allowedResponses.getD k [] := by
  have hall : ∀ j : Fin 12, (FaultKind.ofEntry j.val).allows r = true ↔ r ∈ allowedResponses.getD j.val [] := by
    cases r <;> decide
  exact hall ⟨k, hk⟩

theorem State.writeRole_taken {s : State} {v : Word} {r : Role} (hv : v.toNat = r.code) :
    s.writeRole v =
      { s with acc := { s.acc with roles := s.acc.roles.setIfInBounds s.mi.addr r }, mi := s.mi.wrote } := by
  unfold State.writeRole
  rw [word_eq_ofNat hv, Role.ofWord_code]
  exact State.takenWrite_eq _

theorem State.writeResponse_taken {s : State} {v : Word} {r : Response} (hv : v.toNat = r.code)
    (hallows : (FaultKind.ofEntry s.mi.addr).allows r = true) :
    s.writeResponse v =
      { s with fu := { s.fu with responses := s.fu.responses.setIfInBounds s.mi.addr r }, mi := s.mi.wrote } := by
  unfold State.writeResponse
  rw [word_eq_ofNat hv, Response.ofWord_code]
  exact (if_pos hallows).trans (State.takenWrite_eq _)

theorem State.writeResponse_refused {s : State} {v : Word}
    (h : ∀ r : Response, v.toNat = r.code → ¬(FaultKind.ofEntry s.mi.addr).allows r = true) :
    s.writeResponse v = s.setStatus .refusedRange := by
  unfold State.writeResponse
  split
  case h_1 r hr => exact if_neg (h r (Response.toNat_of_ofWord hr))
  case h_2 => rfl

theorem State.writeTiming_taken {s : State} {v : Word} {t : Timing} (hrange : timingInRange s.mi.addr v = true)
    (ht : s.su.timing.set s.mi.addr v = t) :
    s.writeTiming v = { s with su := { s.su with timing := t }, mi := s.mi.wrote } := by
  unfold State.writeTiming
  rw [if_pos hrange, ht]
  exact State.takenWrite_eq _

/-- A timing value in range, and the table with it (R66). -/
theorem Timing.set_of_range {t t' : Timing} {k : Nat} {v : Word}
    (h : k = 0 ∧ v.toNat ≤ 15 ∧ t' = { t with guardInterval := v } ∨
      k = 1 ∧ 1 ≤ v.toNat ∧ v.toNat ≤ 255 ∧ t' = { t with lockTimeout := v } ∨
      k = 2 ∧ v.toNat ≤ 255 ∧ t' = { t with retryDelay := v } ∨ k = 3 ∧ v.toNat ≤ 7 ∧ t' = { t with retryLimit := v }) :
    timingInRange k v = true ∧ t.set k v = t' := by
  rcases h with ⟨rfl, hv, rfl⟩ | ⟨rfl, hlow, hhigh, rfl⟩ | ⟨rfl, hv, rfl⟩ | ⟨rfl, hv, rfl⟩
  · exact ⟨decide_eq_true hv, rfl⟩
  · exact ⟨Bool.and_eq_true_iff.mpr ⟨decide_eq_true hlow, decide_eq_true hhigh⟩, rfl⟩
  · exact ⟨decide_eq_true hv, rfl⟩
  · exact ⟨decide_eq_true hv, rfl⟩

theorem timingInRange_eq_false {k : Nat} {v : Word}
    (h : k = 0 ∧ 16 ≤ v.toNat ∨ k = 1 ∧ (v.toNat = 0 ∨ 256 ≤ v.toNat) ∨ k = 2 ∧ 256 ≤ v.toNat ∨ k = 3 ∧ 8 ≤ v.toNat) :
    ¬timingInRange k v = true := by
  rcases h with ⟨rfl, hv⟩ | ⟨rfl, hv⟩ | ⟨rfl, hv⟩ | ⟨rfl, hv⟩
  all_goals
    simp only [timingInRange, Bool.and_eq_true, decide_eq_true_eq]
    omega

/-- Settles O45: each table takes what it admits and refuses the rest. -/
theorem tableWrites : Obligations.TableWrites := by
  intro s w m v hup hword hmode haddr
  have hplace : (s.tookIn m).mi.addr = s.mi.addr := Management.addr_of_intake hword
  obtain ⟨hrole, hresponse, htiming⟩ := Management.portalWrite_of_table hmode haddr
  refine ⟨fun htable => ⟨fun r hv => ?_, fun hv => ?_⟩, fun htable => ?_, fun htable => ⟨fun t h => ?_, fun h => ?_⟩⟩
  · rw [exec_agentRoleWrite_of_word hup hword (hrole htable), State.writeRole_taken hv, hplace]
    rfl
  · rw [exec_agentRoleWrite_of_word hup hword (hrole htable), State.writeRole, Role.ofWord_eq_none hv]
    rfl
  · have hentry : (s.tookIn m).mi.addr < 12 := by rw [hplace]; rwa [htable] at haddr
    rw [exec_faultResponseWrite_of_word hup hword (hresponse htable), ← hplace]
    refine ⟨fun r hv hmem => ?_, fun h => ?_⟩
    · rw [State.writeResponse_taken hv ((FaultKind.allows_iff hentry r).mpr hmem)]
      rfl
    · rw [State.writeResponse_refused fun r hv hallows => h r hv ((FaultKind.allows_iff hentry r).mp hallows)]
      rfl
  · obtain ⟨hrange, hset⟩ := Timing.set_of_range h
    rw [exec_timingWrite_of_word hup hword (htiming htable), State.writeTiming_taken (t := t)
      (by rw [hplace]; exact hrange) (by rw [hplace]; exact hset)]
    rfl
  · rw [exec_timingWrite_of_word hup hword (htiming htable), State.writeTiming, hplace,
      if_neg (timingInRange_eq_false h)]
    rfl

end Sys2Proof.Machine
end

section
/-! SUPPORT. Words and bytes read on the management line, and the commands (chapter 11; O46 to O51). -/

namespace Sys2Proof.Machine

/-! PORTAL DATA words (R174, R176). -/

/-- The word a read returns, by the portal's mode. -/
theorem State.portalDataWord_of_address {s : State} (h : s.mi.mode = .address) : s.portalDataWord = toWord s.mi.addr := if_pos h

theorem State.portalDataWord_of_table {s : State} (hmode : s.mi.mode ≠ .address) (haddr : s.mi.addr < portalSize s.mi.table) :
    s.portalDataWord = s.tableWord s.mi.table s.mi.addr := by
  unfold State.portalDataWord
  rw [if_neg hmode, if_pos (s.mi.inTable_iff.mpr haddr)]

theorem State.portalDataWord_beyond {s : State} (hmode : s.mi.mode ≠ .address) (haddr : portalSize s.mi.table ≤ s.mi.addr) :
    s.portalDataWord = 0xFFFF#16 := by
  unfold State.portalDataWord
  rw [if_neg hmode, if_neg (mt s.mi.inTable_iff.mp (Nat.not_lt.mpr haddr))]

/-- A word of a table that holds the address, the table named. -/
theorem State.portalDataWord_at {s : State} {t : Fin 8} (hmode : s.mi.mode ≠ .address) (htable : s.mi.table = t)
    (haddr : s.mi.addr < portalSize t) : s.portalDataWord = s.tableWord t s.mi.addr := by
  subst htable
  exact State.portalDataWord_of_table hmode haddr

/-- Table 0: the descriptor words, LOAD's word, the stage. -/
theorem SlotRec.descriptorWord_of_lt (r : SlotRec) {k : Nat} (h : k < 14) : r.descriptorWord k = r.desc[k] := by
  unfold SlotRec.descriptorWord
  rw [if_pos h, List.getD_eq_getElem?_getD, List.getElem?_eq_getElem (by simpa using h)]
  simp

/-- Table 1: two status bytes in a word. -/
theorem statusSlot_of_addr (n : Slot) (k : Fin 8) : Fin.ofNat 64 ((n.val * 8 + k.val) / 8) = n := by
  have hn := n.isLt
  have hk := k.isLt
  apply Fin.ext
  show (n.val * 8 + k.val) / 8 % 64 = n.val
  omega

theorem vector_getD {α : Type} {n : Nat} (v : Vector α n) (k : Fin n) (d : α) : v.toList.getD k.val d = v[k.val] := by
  rw [List.getD_eq_getElem?_getD, List.getElem?_eq_getElem (by simp)]
  simp

/-- The entry of a kind stands at its code less one (R142). -/
theorem FaultKind.entry_eq (k : FaultKind) : k.code - 1 = k.entry.val := by
  cases k <;> rfl

theorem Timing.get_eq (t : Timing) {k : Nat} (h : k < 4) :
    some (t.get k) = [t.guardInterval, t.lockTimeout, t.retryDelay, t.retryLimit][k]? := by
  interval_cases k <;> rfl

/-- Settles O46: the word chosen is the portal's, and its end sets the status and steps the address. -/
theorem portalWordsRead : Obligations.PortalWordsRead := by
  intro s hup hrow
  have hread := fun p => exec_portalDataRead p hup (Management.portalRead_plain hrow)
  refine ⟨fun hline hitem hsending => ⟨s.portalDataWord, ?begins, State.portalDataWord_of_address,
    State.portalDataWord_beyond, fun hmode htable n k haddr => ?descriptor, fun hmode htable n k haddr => ?status,
    fun hmode htable t haddr => ?roles, fun hmode htable k haddr => ?responses, fun hmode htable haddr => ?timing,
    fun hmode htable => ⟨fun haddr => ?count, fun k haddr hk => ?sweeps⟩⟩, fun hsending => ?sent⟩
  case begins =>
    rw [hread, State.readRow_begins s.atEdge _ _ _ _ _ hline hitem hsending]
    rfl
  case descriptor =>
    have hn := n.isLt
    have hk := k.isLt
    have hin : s.mi.addr < portalSize 0 := by rw [haddr, show portalSize 0 = 1024 from rfl]; omega
    have hword : s.portalDataWord = (s.slot n).descriptorWord k.val := by
      rw [State.portalDataWord_at hmode htable hin, haddr]
      show (s.slot (descriptorSlot (n.val * 16 + k.val))).descriptorWord ((n.val * 16 + k.val) % 16) = _
      rw [descriptorSlot_of_addr n k.val hk, descriptorWord_of_addr n k.val hk]
    rw [hword]
    refine ⟨fun h => SlotRec.descriptorWord_of_lt _ h, fun h => ?_, fun h => ?_⟩
    · rw [h]; rfl
    · rw [h]; rfl
  case status =>
    have hn := n.isLt
    have hk := k.isLt
    have hin : s.mi.addr < portalSize 1 := by rw [haddr, show portalSize 1 = 512 from rfl]; omega
    have hword : (n.val * 8 + k.val) % 8 = k.val := by omega
    rw [State.portalDataWord_at hmode htable hin, haddr]
    show joinBytes (s.statusByte (Fin.ofNat 64 ((n.val * 8 + k.val) / 8)) (2 * ((n.val * 8 + k.val) % 8)))
      (s.statusByte (Fin.ofNat 64 ((n.val * 8 + k.val) / 8)) (2 * ((n.val * 8 + k.val) % 8) + 1)) = _
    rw [statusSlot_of_addr, hword]
  case roles =>
    have hin : s.mi.addr < portalSize 2 := haddr ▸ t.isLt
    rw [State.portalDataWord_at hmode htable hin, haddr]
    exact congrArg (fun r : Role => toWord r.code) (vector_getD s.acc.roles t .unassigned)
  case responses =>
    rw [FaultKind.entry_eq] at haddr
    have hin : s.mi.addr < portalSize 3 := haddr ▸ k.entry.isLt
    rw [State.portalDataWord_at hmode htable hin, haddr]
    exact congrArg (fun r : Response => toWord r.code) (vector_getD s.fu.responses k.entry .report)
  case timing =>
    rw [State.portalDataWord_at hmode htable haddr]
    exact s.su.timing.get_eq haddr
  case count =>
    have hin : s.mi.addr < portalSize 7 := haddr ▸ by decide
    rw [State.portalDataWord_at hmode htable hin, haddr]
    rfl
  case sweeps =>
    have hin : s.mi.addr < portalSize 7 := by rw [haddr, show portalSize 7 = 65 from rfl]; omega
    rw [State.portalDataWord_at hmode htable hin, haddr]
    show s.sweepView (k + 1) = _
    unfold State.sweepView
    rw [if_neg (Nat.succ_ne_zero k), Nat.add_sub_cancel]
    cases s.sw.queue[k]? <;> rfl
  case sent =>
    rw [hread, State.readRow_sent s.atEdge _ _ _ _ _ _ hsending rfl]
    unfold State.finishPortalWord
    by_cases hmode : s.mi.mode = .address
    · rw [if_pos (show s.atEdge.mi.mode = .address from hmode), if_pos hmode]
      rfl
    · rw [if_neg (show ¬s.atEdge.mi.mode = .address from hmode), if_neg hmode]
      by_cases haddr : s.mi.addr < portalSize s.mi.table
      · rw [if_pos (show s.atEdge.mi.inTable = true from s.mi.inTable_iff.mpr haddr), if_pos haddr, State.completedRead_eq]
        rfl
      · rw [if_neg (show ¬s.atEdge.mi.inTable = true from mt s.mi.inTable_iff.mp haddr), if_neg haddr]
        rfl

/-! The reads that remove (R156, R158, R181). -/

theorem not_isEmpty_eq {α : Type} [DecidableEq α] (l : List α) : (!l.isEmpty) = decide (l ≠ []) := by
  cases l <;> simp

/-- The low half of a record's offset. -/
theorem toWord_mod (x : Nat) : toWord x = BitVec.ofNat 16 (x % 65536) := by
  apply BitVec.eq_of_toNat_eq
  rw [toWord, BitVec.toNat_ofNat, BitVec.toNat_ofNat]
  omega

/-- The two words of a record's offset (R156). -/
theorem offsetWords_eq (o : Option Nat) :
    offsetWords o =
      (o.elim 0xFFFF#16 fun x => BitVec.ofNat 16 (x / 65536), o.elim 0xFFFF#16 fun x => BitVec.ofNat 16 (x % 65536)) := by
  cases o with
  | none => rfl
  | some x => exact congrArg (Prod.mk (toWord (x / 65536))) (toWord_mod x)

/-- A custody log word is one of the oldest record (R158). -/
theorem State.tableWord_log_nil {s : State} {k : Nat} (h : s.fu.log = []) : s.tableWord 5 k = 0#16 := by
  unfold State.tableWord
  rw [h]
  rfl

theorem State.tableWord_log_cons {s : State} {r : LogRecord} {older : List LogRecord} {k : Nat} (h : s.fu.log = r :: older) :
    s.tableWord 5 k = r.word k := by
  unfold State.tableWord
  rw [h]
  rfl

/-- The eight words of a record, its optional fields written out (R156). -/
theorem LogRecord.word_eq (r : LogRecord) {k : Nat} (hk : k < 8) :
    some (r.word k) =
      [r.seq, pairWord r.kind.code r.applied.code, pairWord r.slot.val (agentCode r.agent),
        pairWord r.stage.code r.detail.code, (offsetWords r.offset).1, (offsetWords r.offset).2, r.valueA, r.valueB][k]? := by
  interval_cases k <;> rfl

/-- Word 7 of a record, once sent, removes it (R158, R159). -/
theorem State.popLog_eq (s : State) :
    s.popLog =
      { s with
        fu := { s.fu with log := s.fu.log.drop 1, overflow := s.fu.overflow && decide (1 < s.fu.log.length) } } := by
  unfold State.popLog
  rw [List.drop_one]
  have hoverflow : (if s.fu.log.tail.isEmpty then false else s.fu.overflow) =
      (s.fu.overflow && decide (1 < s.fu.log.length)) := by
    rcases s.fu.log with _ | ⟨a, _ | ⟨b, l⟩⟩ <;> simp
  rw [hoverflow]

/-- The end of a custody log word within the table (R181). -/
theorem State.finishLogWord_eq {s : State} (found : Bool) (hin : s.mi.inTable = true) :
    s.finishLogWord (.logWord found) =
      { s with
        fu :=
          if found = true ∧ s.mi.addr = 7 then
            { s.fu with log := s.fu.log.drop 1, overflow := s.fu.overflow && decide (1 < s.fu.log.length) }
          else s.fu
        mi := s.mi.didRead (if found then .ok else .empty) } := by
  unfold State.finishLogWord
  rw [hin, if_neg (by decide)]
  cases found with
  | false => exact s.completedRead_eq .empty
  | true =>
    by_cases hlast : s.mi.addr = 7
    · simp only [hlast, if_true, and_self]
      rw [State.completedRead_eq, State.popLog_eq]
    · simp only [hlast, if_false, and_false, if_true]
      rw [State.completedRead_eq]

/-- The slot that a verified queue word returned leaves the queue, unless its entry is gone (R60, R181). -/
def verifiedAfter (queue : List Slot) (head : Option Slot) (gone : Bool) : List Slot :=
  match head, gone with
  | some n, false => queue.filter fun m => m != n
  | _, _ => queue

theorem State.finishVerifiedWord_eq {s : State} (head : Option Slot) (gone : Bool) (hin : s.mi.inTable = true) :
    s.finishVerifiedWord (.verifiedWord head gone) =
      { s with
        su := { s.su with verified := verifiedAfter s.su.verified head gone }
        mi := s.mi.didRead (if head.isSome then .ok else .empty) } := by
  unfold State.finishVerifiedWord
  rw [hin, if_neg (by decide)]
  cases head with
  | none => exact s.completedRead_eq .empty
  | some n =>
    cases gone with
    | true => exact s.completedRead_eq .ok
    | false => exact (s.leaveVerified n).completedRead_eq .ok

/-- Settles O47: the word is the oldest record's or the head's; its end removes what it returned. -/
theorem logAndQueueReads : Obligations.LogAndQueueReads := by
  intro s hup hmode
  refine ⟨fun htable haddr => ⟨fun hline hitem hsending => ?log, fun found hsending => ?logSent⟩,
    fun htable haddr => ⟨fun hline hitem hsending => ?head, fun head gone hsending => ?headSent⟩,
    fun haddr hline hitem hsending => ⟨fun htable => ?logBeyond, fun htable => ?headBeyond⟩⟩
  case log =>
    have hin : s.mi.addr < portalSize 5 := haddr
    have hword := State.portalDataWord_at hmode htable hin
    refine ⟨s.portalDataWord, ?_, fun hlog => ?_, fun r older hlog => ?_⟩
    · rw [exec_custodyLogRead .begins hup (Management.portalRead_log hmode htable),
        State.readRow_begins s.atEdge _ _ _ _ _ hline hitem hsending, ← not_isEmpty_eq]
      rfl
    · rw [hword, State.tableWord_log_nil hlog]
    · rw [hword, State.tableWord_log_cons hlog, r.word_eq haddr, offsetWords_eq]
      cases r.agent <;> cases r.offset <;> rfl
  case logSent =>
    have hin : s.atEdge.mi.inTable = true := s.mi.inTable_iff.mpr (by rw [htable]; exact haddr)
    rw [exec_custodyLogRead .sent hup (Management.portalRead_log hmode htable),
      State.readRow_sent s.atEdge _ _ _ _ _ _ hsending rfl, State.finishLogWord_eq found hin]
    rfl
  case head =>
    have hin : s.mi.addr < portalSize 6 := haddr
    refine ⟨s.portalDataWord, ?_, ?_⟩
    · rw [State.portalDataWord_at hmode htable hin]
      unfold State.tableWord
      cases s.su.verified <;> rfl
    · rw [exec_verifiedQueueRead .begins hup (Management.portalRead_verified hmode htable),
        State.readRow_begins s.atEdge _ _ _ _ _ hline hitem hsending]
      rfl
  case headSent =>
    have hin : s.atEdge.mi.inTable = true := s.mi.inTable_iff.mpr (by rw [htable]; exact haddr)
    rw [exec_verifiedQueueRead .sent hup (Management.portalRead_verified hmode htable),
      State.readRow_sent s.atEdge _ _ _ _ _ _ hsending rfl, State.finishVerifiedWord_eq head gone hin]
    unfold verifiedAfter
    cases head with
    | none => rfl
    | some n => cases gone <;> rfl
  case logBeyond =>
    have hword : s.atEdge.portalDataWord = 0xFFFF#16 := State.portalDataWord_beyond hmode haddr
    rw [exec_custodyLogRead .begins hup (Management.portalRead_log hmode htable),
      State.readRow_begins s.atEdge _ _ _ _ _ hline hitem hsending, ← not_isEmpty_eq]
    unfold State.chooseLogWord
    rw [hword]
    rfl
  case headBeyond =>
    have hword : s.atEdge.portalDataWord = 0xFFFF#16 := State.portalDataWord_beyond hmode haddr
    rw [exec_verifiedQueueRead .begins hup (Management.portalRead_verified hmode htable),
      State.readRow_begins s.atEdge _ _ _ _ _ hline hitem hsending]
    unfold State.chooseVerifiedWord
    rw [hword]
    rfl

end Sys2Proof.Machine
end

section
/-! SUPPORT. The commands (chapter 11, section 11.6; O50, O51). -/

namespace Sys2Proof.Machine

/-- Each command row is its code and its effect (R182). -/
theorem exec_block {s : State} (w : WordIn) (hup : s.pins.resetLow = false) :
    exec (.block w) s = .next (s.atEdge.commandRow 1#16 w State.blockBridge) :=
  congrArg Host.Outcome.next (s.whenUp_of_up hup _)

theorem exec_unblock {s : State} (w : WordIn) (hup : s.pins.resetLow = false) :
    exec (.unblock w) s = .next (s.atEdge.commandRow 2#16 w State.unblockBridge) :=
  congrArg Host.Outcome.next (s.whenUp_of_up hup _)

theorem exec_custodyReset {s : State} (w : WordIn) (hup : s.pins.resetLow = false) :
    exec (.custodyReset w) s = .next (s.atEdge.commandRow 3#16 w State.resetCustody) :=
  congrArg Host.Outcome.next (s.whenUp_of_up hup _)

theorem exec_clearLog {s : State} (w : WordIn) (hup : s.pins.resetLow = false) :
    exec (.clearLog w) s = .next (s.atEdge.commandRow 4#16 w State.emptyLog) :=
  congrArg Host.Outcome.next (s.whenUp_of_up hup _)

/-- A row's own code issues its command. -/
theorem State.commandRow_issued {s : State} {w : WordIn} {m : Management} {code : Word} (act : State → State)
    (hword : s.mi.intake .command w = (m, some code)) : s.commandRow code w act = act { s with mi := m } :=
  (s.commandRow_of_word code w m code act hword).trans (if_pos rfl)

/-- A word that is no command does nothing in any row (log 21). -/
theorem State.commandRow_unknown {s : State} {w : WordIn} {m : Management} {v code : Word} (act : State → State)
    (hword : s.mi.intake .command w = (m, some v)) (hcode : v ≠ code) (hv : isCommandCode v = false) :
    s.commandRow code w act = { s with mi := { m with acked := false } } := by
  rw [s.commandRow_of_word code w m v act hword, if_neg hcode, hv]
  rfl

theorem isCommandCode_eq_false {v : Word} (h1 : v ≠ 1#16) (h2 : v ≠ 2#16) (h3 : v ≠ 3#16) (h4 : v ≠ 4#16) :
    isCommandCode v = false := by
  simp [isCommandCode, h1, h2, h3, h4]

/-- BLOCK latches BLOCK ENTERED if the bridge was GUARDING (R153). -/
theorem State.blockBridge_eq (s : State) :
    s.blockBridge =
      { s with
        fu :=
          { s.fu with
            bridge := .blocked
            latches := if s.fu.bridge = .guarding then s.fu.latches.set 0 true else s.fu.latches }
        mi :=
          { s.mi with
            sending :=
              if s.fu.bridge = .guarding then s.mi.sending.map fun x => x.afterLatching [.blockEntered]
              else s.mi.sending } } := by
  unfold State.blockBridge
  by_cases h : s.fu.bridge = .guarding
  · simp only [h, if_true, ← Sending.latchedAgain_eq]
    rfl
  · rw [beq_false_of_ne h, if_neg h, if_neg h]
    rfl

/-- Settles O50: each row acts on its own code, and a word that is no command is not acknowledged. -/
theorem commandsOfTheFaultUnit : Obligations.CommandsOfTheFaultUnit := by
  intro s w m v hup hword
  have hedge : s.atEdge.mi.intake .command w = (m, some v) := hword
  refine ⟨?block, ?unblock, ?clearLog, ?unknown⟩
  case block =>
    rintro rfl
    rw [exec_block w hup, State.commandRow_issued _ hedge, State.blockBridge_eq]
    rfl
  case unblock =>
    rintro rfl
    rw [exec_unblock w hup, State.commandRow_issued _ hedge]
    rfl
  case clearLog =>
    rintro rfl
    rw [exec_clearLog w hup, State.commandRow_issued _ hedge]
    rfl
  case unknown =>
    intro hv c hc
    simp only [List.mem_cons, List.not_mem_nil, or_false, not_or] at hv hc
    obtain ⟨h1, h2, h3, h4⟩ := hv
    have hnone := isCommandCode_eq_false h1 h2 h3 h4
    rcases hc with rfl | rfl | rfl | rfl
    · rw [exec_block w hup, State.commandRow_unknown _ hedge h1 hnone]
      rfl
    · rw [exec_unblock w hup, State.commandRow_unknown _ hedge h2 hnone]
      rfl
    · rw [exec_custodyReset w hup, State.commandRow_unknown _ hedge h3 hnone]
      rfl
    · rw [exec_clearLog w hup, State.commandRow_unknown _ hedge h4 hnone]
      rfl

/-- Settles O51: every slot is cleared but for its descriptor, and what is in flight is abandoned. -/
theorem custodyReset : Obligations.CustodyReset := by
  intro s w m hup hword
  have hedge : s.atEdge.mi.intake .command w = (m, some 3#16) := hword
  refine ⟨mapVector SlotRec.custodyReset s.slots, fun n => ?slot, ?state⟩
  case slot =>
    rw [mapVector_get, State.blank_reset.slot n]
    rfl
  case state =>
    rw [exec_custodyReset w hup, State.commandRow_issued _ hedge]
    unfold State.resetCustody State.clearCustody
    rcases hop : s.mp.op with _ | (_ | _ | _)
    all_goals
      simp only [State.atEdge, hop]
      rfl

end Sys2Proof.Machine
end

section
/-! SUPPORT. Alert causes and ALERT_N (chapter 11, section 11.2; O48). -/

namespace Sys2Proof.Machine

theorem Cause.mem_byPriority (c : Cause) : c ∈ Cause.byPriority := by
  cases c <;> decide

/-- Before a cause in the order of priority stand those of lower codes. -/
theorem Cause.byPriority_split (c : Cause) :
    ∃ before after, Cause.byPriority = before ++ c :: after ∧ ∀ d ∈ before, d.code < c.code := by
  refine ⟨Cause.byPriority.take c.place.val, Cause.byPriority.drop (c.place.val + 1), ?_⟩
  cases c <;> decide

/-- The cause that calls while none of higher priority does is the one chosen (R164). -/
theorem FaultUnit.topCause_eq_some {fu : FaultUnit} {c : Cause} (hcalls : fu.calls c = true)
    (hfirst : ∀ d : Cause, d.code < c.code → fu.calls d = false) : fu.topCause = some c := by
  obtain ⟨before, after, hsplit, hbefore⟩ := c.byPriority_split
  refine List.find?_eq_some_iff_append.mpr ⟨hcalls, before, after, hsplit, fun d hd => ?_⟩
  rw [hfirst d (hbefore d hd)]
  rfl

theorem FaultUnit.topCause_eq_none {fu : FaultUnit} (hsilent : ∀ d : Cause, fu.calls d = false) : fu.topCause = none :=
  List.find?_eq_none.mpr fun d _ => by rw [hsilent d]; decide

/-- The byte chosen, by its place in the item (R164, R170). -/
theorem State.chooseCause_beyond {s : State} (hline : s.mi.line = .reading) (hitem : s.mi.item = .alertCause)
    (hpos : s.mi.bytePos ≠ 0) : s.chooseCause = (.causeByte none false, [0xFF#8]) := by
  unfold State.chooseCause
  rw [if_pos]
  simp [Management.readingOf, hline, hitem, hpos]

theorem State.chooseCause_of_top {s : State} {chosen : Option Cause} (hpos : s.mi.bytePos = 0)
    (htop : s.fu.topCause = chosen) : s.chooseCause = (.causeByte chosen false, [causeCode chosen]) := by
  unfold State.chooseCause
  rw [hpos, htop]
  exact if_neg (by simp)

/-- A byte sent unlatches the cause it showed, unless it was latched again (R164). -/
def latchesAfter (latches : Vector Bool 7) (chosen : Option Cause) (again : Bool) : Vector Bool 7 :=
  match chosen, again with
  | some c, false => latches.set c.place.val false
  | _, _ => latches

theorem State.unlatchSent_eq (s : State) (chosen : Option Cause) (again : Bool) :
    s.unlatchSent (.causeByte chosen again) =
      { s with fu := { s.fu with latches := latchesAfter s.fu.latches chosen again } } := by
  cases chosen with
  | none => rfl
  | some c => cases again <;> rfl

theorem exec_alertEnable_of_word {s : State} {w : WordIn} {m : Management} {v : Word} (hup : s.pins.resetLow = false)
    (hword : s.mi.intake .alertEnable w = (m, some v)) :
    exec (.alertEnable w) s = .next
      { s.tookIn m with fu := { s.fu with enables := enablesOf v } } := by
  refine congrArg Host.Outcome.next ?_
  rw [State.whenUp_of_up s hup]
  exact State.intake_of_word _ _ _ _ _ _ hword

theorem State.heldCount_pos_iff (s : State) : 0 < s.heldCount ↔ ∃ n : Slot, (s.slot n).stage = .held := by
  unfold State.heldCount
  rw [State.length_slotsIn, List.countP_pos_iff]
  simp

/-- ALERT_N is low for a cause that calls and for the two conditions (R165). -/
theorem State.alertLow_iff {s : State} (hup : s.pins.resetLow = false) :
    s.alertLow = true ↔
      (∃ c : Cause, s.fu.latches[c.place.val] = true ∧ s.fu.enables[c.place.val] = true) ∨
        s.fu.bridge = .blocked ∧ s.fu.enables[Cause.blockEntered.place.val] = true ∨
        (∃ n : Slot, (s.slot n).stage = .held) ∧ s.fu.enables[Cause.slotHeld.place.val] = true := by
  have hcause : Cause.byPriority.any (fun c => s.fu.calls c) = true ↔
      ∃ c : Cause, s.fu.latches[c.place.val] = true ∧ s.fu.enables[c.place.val] = true := by
    simp [List.any_eq_true, FaultUnit.calls, Cause.mem_byPriority]
  unfold State.alertLow
  rw [hup, Bool.not_false, Bool.true_and, Bool.or_eq_true, Bool.or_eq_true, hcause, Bool.and_eq_true, Bool.and_eq_true,
    beq_iff_eq, decide_eq_true_iff, State.heldCount_pos_iff, or_assoc]

/-- Settles O48: the cause is chosen at the byte's beginning and unlatched at its end; the pin shows causes and conditions. -/
theorem alertsAreCollected : Obligations.AlertsAreCollected := by
  refine ⟨fun s hreset => ?reset, fun s hup => ⟨fun hline hitem hsending hpos => ?beyond,
    fun chosen hline hitem hsending hpos hcalls hsilent => ?begins, fun chosen again hsending => ?sent,
    fun w m v hword => ?enable, State.alertLow_iff hup⟩⟩
  case reset =>
    unfold State.alertLow
    rw [hreset]
    rfl
  case beyond =>
    rw [exec_alertCause .begins hup, State.readRow_begins s.atEdge _ _ _ _ _ hline hitem hsending,
      State.chooseCause_beyond (s := s.atEdge) hline hitem hpos]
    rfl
  case begins =>
    have htop : s.fu.topCause = chosen := by
      cases chosen with
      | none => exact FaultUnit.topCause_eq_none (hsilent rfl)
      | some c =>
        obtain ⟨hc, hfirst⟩ := hcalls c rfl
        exact FaultUnit.topCause_eq_some hc hfirst
    rw [exec_alertCause .begins hup, State.readRow_begins s.atEdge _ _ _ _ _ hline hitem hsending,
      State.chooseCause_of_top (s := s.atEdge) hpos htop]
    cases chosen <;> rfl
  case sent =>
    rw [exec_alertCause .sent hup, State.readRow_sent s.atEdge _ _ _ _ _ _ hsending rfl, State.unlatchSent_eq]
    cases chosen with
    | none => rfl
    | some c => cases again <;> rfl
  case enable =>
    rw [exec_alertEnable_of_word hup hword]
    rfl

end Sys2Proof.Machine
end

section
/-! SUPPORT. A whole read and its two parts (R164, R170, R181; O49). -/

namespace Sys2Proof.Machine

/-- The state once the first byte of a read row's value has begun. -/
def State.readBegun (s : State) (i : Item) (choose : State → Sending × List Byte) : State :=
  { s with mi := (s.mi.openRead i).beginSending (choose s).1 (choose s).2 }

/-- The state once the last byte of the value has been sent. -/
def State.readEnded (s : State) (x : Sending) (width : Nat) (finish : State → Sending → State) : State :=
  { finish s x with mi := (finish s x).mi.endSending width }

section
variable {s : State} {i : Item} {width : Nat} {choose : State → Sending × List Byte} {mine : Sending → Bool}
  {finish : State → Sending → State}

theorem State.readRow_begins_eq (hfree : (s.mi.readingOf i && s.mi.sending.isSome) = false) :
    s.readRow i .begins width choose mine finish = s.readBegun i choose :=
  if_neg (ne_true_of_eq_false hfree)

theorem State.readRow_whole_eq (hfree : (s.mi.readingOf i && s.mi.sending.isSome) = false) :
    s.readRow i .whole width choose mine finish =
      { (s.readBegun i choose).readEnded (choose s).1 width finish with
        mi := ((s.readBegun i choose).readEnded (choose s).1 width finish).mi.closeUnless (s.mi.readingOf i) } :=
  if_neg (ne_true_of_eq_false hfree)

theorem State.readRow_sent_of_begun (hmine : mine (choose s).1 = true) :
    (s.readBegun i choose).readRow i .sent width choose mine finish =
      (s.readBegun i choose).readEnded (choose s).1 width finish :=
  State.readRow_sent _ i width choose mine finish _ rfl hmine

/-- A row that reads as `readRow` does, in the state and once its value has begun: the whole read is both parts. -/
theorem exec_whole_of_parts {row : ReadPart → Instr}
    (hrow : ∀ p, exec (row p) s = .next (s.atEdge.readRow i p width choose mine finish))
    (hbegun : exec (row .sent) (s.atEdge.readBegun i choose) =
      .next ((s.atEdge.readBegun i choose).readRow i .sent width choose mine finish))
    (hmine : mine (choose s.atEdge).1 = true) :
    ∃ s₁ s₂,
      (s.mi.line = .reading → s.mi.item = i → s.mi.sending = none →
        exec (row .begins) s = .next s₁ ∧ exec (row .sent) s₁ = .next s₂ ∧ exec (row .whole) s = .next s₂) ∧
      (s.mi.line ≠ .reading ∨ s.mi.item ≠ i →
        exec (row .begins) s = .next s₁ ∧ exec (row .sent) s₁ = .next s₂ ∧
          exec (row .whole) s = .next { s₂ with mi := { s₂.mi with line := .idle, bytePos := 0 } }) := by
  refine ⟨s.atEdge.readBegun i choose, (s.atEdge.readBegun i choose).readEnded (choose s.atEdge).1 width finish,
    fun hline hitem hsending => ?inPlace, fun hother => ?alone⟩
  case inPlace =>
    have hplace : s.atEdge.mi.readingOf i = true := by simp [Management.readingOf, State.atEdge, hline, hitem]
    have hfree : (s.atEdge.mi.readingOf i && s.atEdge.mi.sending.isSome) = false := by
      rw [show s.atEdge.mi.sending = none from hsending, Option.isSome_none, Bool.and_false]
    rw [hrow, hrow, hbegun, State.readRow_begins_eq hfree, State.readRow_sent_of_begun hmine, State.readRow_whole_eq hfree,
      hplace]
    exact ⟨rfl, rfl, rfl⟩
  case alone =>
    have hplace : s.atEdge.mi.readingOf i = false := by
      rcases hother with h | h <;> simp [Management.readingOf, State.atEdge, h]
    have hfree : (s.atEdge.mi.readingOf i && s.atEdge.mi.sending.isSome) = false := by rw [hplace, Bool.false_and]
    rw [hrow, hrow, hbegun, State.readRow_begins_eq hfree, State.readRow_sent_of_begun hmine, State.readRow_whole_eq hfree,
      hplace]
    exact ⟨rfl, rfl, rfl⟩

end

/-- Opening a read transaction leaves the portal's selection, and so the word's row, alone. -/
theorem Management.portalRead_openRead (m : Management) (i : Item) : (m.openRead i).portalRead = m.portalRead := by
  unfold Management.openRead
  split
  · rfl
  · rfl

/-- A read begun belongs to the row that it belonged to before. -/
theorem State.portalRead_readBegun (s : State) (i : Item) (choose : State → Sending × List Byte) :
    (s.atEdge.readBegun i choose).mi.portalRead = s.mi.portalRead :=
  s.mi.portalRead_openRead i

/-- Settles O49: each of the four rows reads as `readRow` does, before and after its value has begun. -/
theorem wholeReadsAreBothParts : Obligations.WholeReadsAreBothParts := by
  intro s row i hup hcase
  rcases hcase with ⟨rfl, rfl⟩ | ⟨rfl, rfl, hrow⟩ | ⟨rfl, rfl, hmode, htable⟩ | ⟨rfl, rfl, hmode, htable⟩
  case inl =>
    refine exec_whole_of_parts (fun p => exec_alertCause p hup) (exec_alertCause .sent hup) ?_
    unfold State.chooseCause
    split <;> rfl
  case inr.inl =>
    have hplain := Management.portalRead_plain hrow
    exact exec_whole_of_parts (fun p => exec_portalDataRead p hup hplain)
      (exec_portalDataRead .sent hup ((s.portalRead_readBegun _ _).trans hplain)) rfl
  case inr.inr.inl =>
    have hlog := Management.portalRead_log hmode htable
    exact exec_whole_of_parts (fun p => exec_custodyLogRead p hup hlog)
      (exec_custodyLogRead .sent hup ((s.portalRead_readBegun _ _).trans hlog)) rfl
  case inr.inr.inr =>
    have hverified := Management.portalRead_verified hmode htable
    exact exec_whole_of_parts (fun p => exec_verifiedQueueRead p hup hverified)
      (exec_verifiedQueueRead .sent hup ((s.portalRead_readBegun _ _).trans hverified)) rfl

end Sys2Proof.Machine
end
